-- ==== Sys2Proof/Word.lean ====
section
/-! DEFINITION. The word types of the part's edges: bytes, window words and keys. -/

namespace Sys2Proof

/-- One byte of a frame, a descriptor or a completion record. -/
abbrev Byte := BitVec 8

/-- One word of the management window (R139). -/
abbrev Word := BitVec 32

/-- A flow key or a key mask, 128 bits (R19). -/
abbrev Key := BitVec 128

end Sys2Proof
end

