-- ==== Sys2Proof/Syntax.lean ====
section
/-! DEFINITION. The commands of the block: one constructor for each row of spec/opcode_table.json, in the
table's order. A row's operands are what its event brings from outside; a row whose operands stand in the
state (a granted operation, a command taken from its slot) carries none. -/

namespace Sys2Proof

/-- The fields of an inbound frame behind its kind and tag (section 4.1, R183). -/
inductive RequestBody where
  | lookup (domain learnFlag : Byte) (length : BitVec 16) (key : Key)
  | peek (domain : Byte) (key : Key)
  | hold (handle : BitVec 16) (generation : Byte) (ticks : BitVec 16)
  deriving DecidableEq, Repr

/-- The first test of R57 that a frame fails. -/
inductive FrameError where
  | badCheck
  | unknownKind
  | badSize
  deriving DecidableEq, Repr

/-- The steps of the part (spec/opcode_table.json; spec/95_what_each_step_holds.md). -/
inductive Instr where
  | powerOnReset
  | initPassEnd
  | tick
  | deadlineDue
  | holdEndDue
  | lookupFrameArrival (channel : Fin 4) (tag domain learnFlag : Byte) (length : BitVec 16) (key : Key)
  | peekFrameArrival (channel : Fin 4) (tag domain : Byte) (key : Key)
  | holdFrameArrival (channel : Fin 4) (tag : Byte) (handle : BitVec 16) (generation : Byte) (ticks : BitVec 16)
  | badFrameArrival (channel : Fin 4) (frame : List Byte)
  | lookup
  | peek
  | holdRequest
  | expiry
  | holdEnd
  | sweepPosition
  | channelOperationEnd
  | commandOperationEnd
  | ltOperationEnd
  | sweepPositionEnd
  | setSeed
  | setSeedOperation
  | setDomain
  | setDomainOperation
  | queryDomain
  | setProfile
  | queryProfile
  | channelControlOpen
  | channelControlClose
  | channelControlReset
  | setTick
  | setTime
  | hold
  | holdCommandOperation
  | fetchLearned
  | fetchLearnedOperation
  | confirm
  | confirmOperation
  | reject
  | rejectOperation
  | retire
  | retireOperation
  | fetchClosed
  | fetchClosedOperation
  | insert
  | insertOperation
  | find
  | findOperation
  | query
  | queryOperation
  | modify
  | modifyOperation
  | collect
  | collectOperation
  | sweep
  | sweepSuspend
  | sweepResume
  | sweepAbort
  | unknownCommand
  | cmdProducerWrite (value : Word)
  | cplConsumerWrite (value : Word)
  | causeWrite (value : Word)
  | causeEnableWrite (value : Word)
  | runEnableWrite (value : Word)
  | portReset (value : Word)
  | timeLowRead
  | windowWrite (offset : BitVec 12) (value : Word)
  | uncorrectableError (handle : Nat)
  deriving DecidableEq, Repr

end Sys2Proof
end

