-- ==== Sys2Proof/Decode.lean ====
section
/-! DEFINITION. What the part reads from a link frame (R56, R57, R183), the frame that spells a request, and the
reading of a table word: no row of spec/opcode_table.json gives bits, so no word spells a command. -/

namespace Sys2Proof

/-- `n` bytes of a link field, most significant byte first (R179). -/
def bytesBE : Nat → Nat → List Byte
  | 0, _ => []
  | n + 1, v => BitVec.ofNat 8 (v / 256 ^ n) :: bytesBE n v

/-- The number that link bytes spell, most significant byte first (R179). -/
def natBE (bs : List Byte) : Nat :=
  bs.foldl (fun acc b => acc * 256 + b.toNat) 0

/-- The field of `size` bytes at offset `off` of a frame (R183). -/
def frameField (f : List Byte) (off size : Nat) : Nat :=
  natBE ((f.drop off).take size)

/-- `n` shifts of the CRC register under the polynomial 0x1021 (R56). -/
def crcShifts : Nat → BitVec 16 → BitVec 16
  | 0, r => r
  | n + 1, r => crcShifts n (if r.msb then (r <<< 1) ^^^ 0x1021#16 else r <<< 1)

/-- One byte enters the CRC register, most significant bit first (R56). -/
def crcByte (r : BitVec 16) (b : Byte) : BitVec 16 :=
  crcShifts 8 (r ^^^ (b.setWidth 16 <<< 8))

/-- The check over some bytes: the register starts at all ones and its final value is not inverted (R56). -/
def crc (bs : List Byte) : BitVec 16 :=
  bs.foldl crcByte 0xFFFF#16

/-- A frame's bytes before its check, followed by that check, most significant byte first (R56). -/
def withCheck (bs : List Byte) : List Byte :=
  bs ++ bytesBE 2 (crc bs).toNat

/-- The bytes of a request before its check (R183, first table). -/
def requestBytes (tag : Byte) : RequestBody → List Byte
  | .lookup domain learnFlag length key =>
    [0x01#8, tag, domain, learnFlag] ++ bytesBE 2 length.toNat ++ bytesBE 16 key.toNat
  | .peek domain key => [0x02#8, tag, domain] ++ bytesBE 16 key.toNat
  | .hold handle generation ticks =>
    [0x03#8, tag] ++ bytesBE 2 handle.toNat ++ [generation] ++ bytesBE 2 ticks.toNat

/-- The frame that carries a request on the request lane (R183, R56). -/
def encodeRequest (tag : Byte) (r : RequestBody) : List Byte :=
  withCheck (requestBytes tag r)

/-- The tests an arriving frame meets, in their order, and the request a well-formed frame carries (R57). -/
def classifyFrame (f : List Byte) : Except FrameError (Byte × RequestBody) :=
  if f.length < 4 then .error .badSize
  else if (crc (f.take (f.length - 2))).toNat ≠ frameField f (f.length - 2) 2 then .error .badCheck
  else
    let tag := BitVec.ofNat 8 (frameField f 1 1)
    if frameField f 0 1 = 1 then
      if f.length = 24 then
        .ok (tag, .lookup (BitVec.ofNat 8 (frameField f 2 1)) (BitVec.ofNat 8 (frameField f 3 1))
          (BitVec.ofNat 16 (frameField f 4 2)) (BitVec.ofNat 128 (frameField f 6 16)))
      else .error .badSize
    else if frameField f 0 1 = 2 then
      if f.length = 21 then
        .ok (tag, .peek (BitVec.ofNat 8 (frameField f 2 1)) (BitVec.ofNat 128 (frameField f 3 16)))
      else .error .badSize
    else if frameField f 0 1 = 3 then
      if f.length = 9 then
        .ok (tag, .hold (BitVec.ofNat 16 (frameField f 2 2)) (BitVec.ofNat 8 (frameField f 4 1))
          (BitVec.ofNat 16 (frameField f 5 2)))
      else .error .badSize
    else .error .unknownKind

/-- The command that a word spells by the table's bits. The table of this block gives no row any bits (its
rows are events and granted operations, not words), so no word spells a command (log entry 22). -/
def decodeTableWord (_nbits _w : Nat) : Option Instr := none

end Sys2Proof
end

