-- ==== Sys2Proof/Config.lean ====
section
/-! DEFINITION. The fixed sizes of revision 1 of the part and the values its manual leaves open. -/

namespace Sys2Proof.Config

/-- The number of slots: 8,192 bucket slots and 64 spill entries (section 1.1). -/
abbrev slots : Nat := 8256

/-- The handle of spill entry 0 (section 1.1). -/
abbrev spillBase : Nat := 8192

/-- The end of a sweep walk: buckets 0..2047, then spill groups 2048..2063 (R169). -/
abbrev walkEnd : Nat := 2064

/-- The largest value of the time base, where it stops (R99). -/
abbrev timeMax : Nat := 281474976710655

/-- The largest value of the packets counter (R10). -/
abbrev packetsMax : Nat := 1099511627775

/-- The largest value of the bytes counter (R10). -/
abbrev bytesMax : Nat := 281474976710655

/-- The largest value of the exceeds counter (R10). -/
abbrev exceedsMax : Nat := 4294967295

/-- The credits of an opening, which bound the unanswered count (R60, R61). -/
abbrev credits : Nat := 8

/-- Command slots in the ring (R143). -/
abbrev commandSlots : Nat := 16

/-- Completion slots in the ring (R145, R149). -/
abbrev completionSlots : Nat := 32

/-- The body fields of a damaged record as they are read from the record store, uncorrected. They are
the bits of the image's fields, and they may lie outside the ranges the fields have in a sound record
(R136): the origin may be a code that names nothing. -/
structure RawBody where
  key : Key
  cls : Byte
  profile : BitVec 6
  pinned : Bool
  leaseInterval : BitVec 16
  tokens : BitVec 24
  meterTime : BitVec 48
  packets : BitVec 40
  bytes : BitVec 48
  exceeds : BitVec 32
  origin : BitVec 3
  created : BitVec 48
  deriving DecidableEq, Repr, Inhabited

/-- FREE VALUE (R136: "the key, class, counters and every other body field may hold any value"): what the
n-th read of a damaged body gives. Nothing constrains it. DESIGN CHOICE, log entry 9. -/
opaque damagedBody : Nat → RawBody

/-- FREE VALUE: the 14-bit handle field of the completion of a refused CONFIRM whose descriptor gave this handle, above 16383.
R126 has the completion carry the reference as given, and the field of section 11.3 cannot hold such a handle. Nothing constrains
it. DESIGN CHOICE, log entry 27. -/
opaque wideHandle : BitVec 16 → BitVec 14

end Sys2Proof.Config
end

