-- ==== Sys2Proof/Machine/State.lean ====
section
/-! DEFINITION. The state of the part, as plain data: every register, queue, list, table and mode the spec names, the
queue of waiting commands, and the state right after power-on reset. -/

namespace Sys2Proof.Machine

/-! ### Records (chapter 1) -/

/-- The five record states (section 1.5, R12). -/
inductive RecState where
  | free
  | provisional
  | active
  | held
  | closing
  deriving DecidableEq, Repr

/-- Why a record entered CLOSING (R6). -/
inductive CloseReason where
  | retired
  | idle
  | swept
  | damaged
  deriving DecidableEq, Repr

/-- Who created a record (section 1.4): the channel that learned it, or the host that inserted it. -/
inductive Origin where
  | lc (channel : Fin 4)
  | host
  deriving DecidableEq, Repr

/-- One entry of the slot directory (section 1.2, R3). -/
structure DirEntry where
  state : RecState
  domain : Fin 16
  generation : Byte
  closeReason : Option CloseReason
  deriving DecidableEq, Repr

/-- The record body (section 1.4, R8, R9). -/
structure Body where
  key : Key
  cls : Byte
  profile : Fin 64
  pinned : Bool
  leaseInterval : Nat
  deadline : Option Nat
  holdEnd : Option Nat
  tokens : Nat
  meterTime : Nat
  packets : Nat
  bytes : Nat
  exceeds : Nat
  origin : Origin
  created : Nat
  reported : Option Bool
  deriving DecidableEq, Repr

/-- The storage of one record: its directory entry, its body, and whether the stored body holds an error its code
cannot correct (R8, R33). -/
structure Slot where
  dir : DirEntry
  body : Body
  bad : Bool
  deriving DecidableEq, Repr

/-- A record body of all-zero fields, as the initialisation pass writes it (R3). -/
def Body.zero : Body where
  key := 0#128
  cls := 0#8
  profile := 0
  pinned := false
  leaseInterval := 0
  deadline := none
  holdEnd := none
  tokens := 0
  meterTime := 0
  packets := 0
  bytes := 0
  exceeds := 0
  origin := .lc 0
  created := 0
  reported := none

/-- A slot as the initialisation pass leaves it: FREE, domain 0, generation 0, no close reason, an all-zero body with a
valid code (R3). -/
def Slot.powerOn : Slot where
  dir := { state := .free, domain := 0, generation := 0#8, closeReason := none }
  body := Body.zero
  bad := false

/-- The flow table and what moves with it in one table operation (R31): the slots, the domain counts, the learned and
closed lists, and the lease timer's two queues. `slots` lists handles in rising order, and a handle it does not list
reads as `Slot.powerOn`. The queues hold (time, handle) pairs in rising order (R104, R113). -/
structure FlowTable where
  slots : List (Nat × Slot)
  counts : Vector Nat 16
  learned : List Nat
  closed : List Nat
  expiryQ : List (Nat × Nat)
  holdQ : List (Nat × Nat)
  deriving DecidableEq, Repr

/-- The table after the initialisation pass (R3, R39, R104, R113, R121, R134). -/
def FlowTable.initial : FlowTable where
  slots := []
  counts := Vector.replicate 16 0
  learned := []
  closed := []
  expiryQ := []
  holdQ := []

/-! ### Domains and profiles (chapter 3) -/

/-- The learn modes (section 3.1). -/
inductive LearnMode where
  | off
  | confirm
  | auto
  deriving DecidableEq, Repr

/-- One entry of the domain table, without the count that the TC keeps beside it (R39). -/
structure DomainEntry where
  enabled : Bool
  mask : Key
  learnMode : LearnMode
  learnClass : Byte
  learnProfile : Fin 64
  learnLease : Nat
  timeout : Nat
  autoRelease : Bool
  quota : Nat
  deriving DecidableEq, Repr

/-- The power-on values of a domain entry (section 3.1, R39). -/
def DomainEntry.powerOn : DomainEntry where
  enabled := false
  mask := BitVec.allOnes 128
  learnMode := .off
  learnClass := 0#8
  learnProfile := 0
  learnLease := 0
  timeout := 1000
  autoRelease := false
  quota := 8256

/-- One meter profile (section 3.4, R48). -/
structure Profile where
  rate : Nat
  burst : Nat
  deriving DecidableEq, Repr

/-! ### Lookup channels (chapters 4 and 5) -/

/-- The verdicts of a RESPONSE (R64, R79, R183). -/
inductive Verdict where
  | conform
  | exceed
  | held
  | provisional
  | closed
  | learned
  | miss
  | found
  | accepted
  | stale
  | refused
  | domainOff
  | badRequest
  | channelClosed
  deriving DecidableEq, Repr

/-- The reasons that refine a verdict (R183, second table). -/
inductive Reason where
  | none
  | retired
  | idle
  | swept
  | conform
  | exceed
  | learnOff
  | quota
  | full
  | domain
  | learnFlag
  | length
  | handle
  | disabled
  | draining
  deriving DecidableEq, Repr

/-- The six fields of a service result (R79). A field that the verdict does not fill is 0; state FREE, code 0, stands for
an absent state (R16). -/
structure ServiceResult where
  verdict : Verdict
  reason : Reason := .none
  handle : Nat := 0
  generation : Byte := 0#8
  cls : Byte := 0#8
  state : RecState := .free
  holdRemaining : Nat := 0
  deriving DecidableEq, Repr

/-- Why a CLOSE_NOTICE is sent (R55). -/
inductive NoticeReason where
  | host
  | fault
  | reset
  deriving DecidableEq, Repr

/-- A frame of the outbound lane (section 4.1, R183). -/
inductive OutFrame where
  | response (tag : Byte) (result : ServiceResult)
  | creditGrant (count : Nat)
  | closeNotice (reason : NoticeReason)
  deriving DecidableEq, Repr

/-- The channel states (R55). -/
inductive ChanState where
  | disabled
  | opened
  | draining
  | fault
  deriving DecidableEq, Repr

/-- The fault reasons of a channel (R55, R66). -/
inductive FaultReason where
  | none
  | overrun
  | badCheck
  | unknownKind
  | badSize
  deriving DecidableEq, Repr

/-- An entry of a request queue: the tag, the fields, and the mark of a bad request with its first failing field
(R58, R62). -/
structure Request where
  tag : Byte
  body : RequestBody
  bad : Option Reason
  deriving DecidableEq, Repr

/-- One lookup channel (R61, R62, R66, R68, R74). `presented` says that the head of the queue waits at the arbiter
(R28); `lane` is the model's record of the frames produced, oldest first (R59, log entry 10). -/
structure Channel where
  state : ChanState
  queue : List Request
  unanswered : Nat
  waitingAnswers : List Byte
  faultReason : FaultReason
  closePending : Option (BitVec 16)
  presented : Bool
  lane : List OutFrame
  deriving DecidableEq, Repr

/-- A channel after power-on reset (R76). -/
def Channel.powerOn : Channel where
  state := .disabled
  queue := []
  unanswered := 0
  waitingAnswers := []
  faultReason := .none
  closePending := none
  presented := false
  lane := []

/-! ### Commands and completions (chapters 8 and 11) -/

/-- The 48 bytes of a descriptor, byte +0 being the least significant (R179, R181). -/
abbrev Descriptor := BitVec 384

/-- The completion status values (section 8.5). -/
inductive Status where
  | ok
  | unknownCommand
  | badArgument
  | stale
  | notFound
  | exists
  | wrongState
  | quota
  | full
  | busy
  | notRunning
  | aborted
  | empty
  | notEmpty
  | domainOff
  | backward
  | damaged
  deriving DecidableEq, Repr

/-- The sweep states (section 10.1). -/
inductive SweepState where
  | idle
  | running
  | suspending
  | suspended
  | aborting
  deriving DecidableEq, Repr

/-- What the timer field of the record layout carries (R182). -/
inductive TimerField where
  | none
  | deadline (t : Nat)
  | holdEnd (t : Nat)
  | closeReason (r : CloseReason)
  deriving DecidableEq, Repr

/-- The record layout of a completion, with the three flags of byte +3 (R182). Fields are numbers as the layout holds
them, since the body of a damaged record may hold any bits (R136); a field that is not written is 0 (R150). -/
structure RecordFields where
  handle : Nat := 0
  generation : Byte := 0#8
  state : RecState := .free
  timer : TimerField := .none
  origin : Nat := 0
  domain : Nat := 0
  profile : Nat := 0
  cls : Byte := 0#8
  leaseInterval : Nat := 0
  tokens : Nat := 0
  key : Key := 0#128
  meterTime : Nat := 0
  created : Nat := 0
  packets : Nat := 0
  bytes : Nat := 0
  exceeds : Nat := 0
  reliable : Bool := false
  pinned : Bool := false
  reported : Bool := false
  deriving DecidableEq, Repr

/-- The result fields of a completion record (R182, tables of section 11.3). -/
inductive Results where
  | none
  | seed (seed : BitVec 11)
  | domain (number : Fin 16) (entry : DomainEntry) (count : Nat)
  | domainCount (count : Nat)
  | insertQuota (number : Fin 16) (quota count : Nat)
  | profile (number : Fin 64) (entry : Profile)
  | channel (number action state fault unanswered : Nat)
  | tick (divider : Nat) (enable : Bool) (timeBase : Nat)
  | time (timeBase : Nat)
  | record (fields : RecordFields)
  | sweep (state : SweepState) (cursor visited matched acted : Nat)
  deriving DecidableEq, Repr

/-- Where the command in execution stands (R145, R147, R177): just taken, its table operation waiting at the arbiter, its
table operation at the table, or a SWEEP_ABORT waiting for the position in flight. -/
inductive Phase where
  | taken
  | waiting
  | atTable
  | aborting
  deriving DecidableEq, Repr

/-- The command in execution: the copy of its descriptor, and its phase (R144, R145). -/
structure Execution where
  desc : Descriptor
  phase : Phase
  deriving DecidableEq, Repr

/-! ### The arbiter and the table operation (sections 2.6 and 2.7) -/

/-- The seven requesters (R28). -/
inductive Requester where
  | lc (channel : Fin 4)
  | cp
  | su
  | lt
  deriving DecidableEq, Repr

/-- What a table operation hands back to its requester at its end: a channel's service result (R79), a command's status
and result fields (R147), nothing for the lease timer (R108, R117), and a sweep position's counts (R169). -/
inductive OpOutcome where
  | response (result : ServiceResult)
  | completion (status : Status) (results : Results)
  | timer
  | position (visited matched acted : Nat)
  deriving DecidableEq, Repr

/-- The operation at the table: its requester, the table as it stood at its grant (which is what the outside sees until it
ends, R31), whether its result will be discarded (R65, R154, R178), and that result. -/
structure TableOp where
  requester : Requester
  before : FlowTable
  abandoned : Bool
  outcome : OpOutcome
  deriving DecidableEq, Repr

/-! ### The lease timer (chapter 6) -/

/-- The two operations of the lease timer (R107). -/
inductive TimerOp where
  | expiry
  | holdEnd
  deriving DecidableEq, Repr

/-- The lease timer without its queues, which move with the table (R99, R100, R107). -/
structure Timer where
  timeBase : Nat
  divider : Nat
  enable : Bool
  dividerCount : Nat
  waiting : Option (TimerOp × Nat)
  deriving DecidableEq, Repr

/-! ### The sweep unit (chapter 10) -/

/-- The sweep actions with the value the action uses (R168, R171, R180). -/
inductive SweepAction where
  | count
  | retire
  | reclass (cls : Byte)
  | reprofile (profile : Fin 64)
  | release
  deriving DecidableEq, Repr

/-- The selection parameters and the action of a walk (section 10.2); selector `none` is ALL. -/
structure SweepParams where
  selector : Option (Fin 16)
  classValue : Byte
  classMask : Byte
  onProvisional : Bool
  onActive : Bool
  onHeld : Bool
  action : SweepAction
  deriving DecidableEq, Repr

/-- The sweep unit (R167). `presented` says that the position at the cursor waits at the arbiter (R28). -/
structure Sweep where
  state : SweepState
  cursor : Nat
  visited : Nat
  matched : Nat
  acted : Nat
  params : SweepParams
  pendingSweep : Option (BitVec 16)
  pendingSuspend : Option (BitVec 16)
  presented : Bool
  deriving DecidableEq, Repr

/-! ### The management port (chapter 8) -/

/-- The management port (R139, R141 to R145, R149, R151, R152). `window` holds the bytes of the command and completion
slots by window offset, offsets rising, an unlisted byte reading 0; `latched` holds the latched causes in the bits of
CAUSE; `readData` is the model's record of what the last TIME_LOW read returned (log entry 11). -/
structure Port where
  ready : Bool
  run : Bool
  cmdProducer : Nat
  cmdConsumer : Nat
  cplProducer : Nat
  cplConsumer : Nat
  reservations : Nat
  window : List Host.Cell
  latched : Word
  enables : Word
  snapshot : BitVec 16
  readData : Word
  deriving DecidableEq, Repr

/-- The state of the part. `pending` is the queue of commands that wait, first in, first out; `freeCount` is the model's
counter of the free values used (log entry 9). -/
structure State where
  port : Port
  inExec : Option Execution
  seed : BitVec 11
  domains : Vector DomainEntry 16
  profiles : Vector Profile 64
  chans : Vector Channel 4
  table : FlowTable
  lastGranted : Requester
  opAtTable : Option TableOp
  timer : Timer
  sweep : Sweep
  freeCount : Nat
  pending : List Instr
  deriving DecidableEq, Repr

/-- The reasons a step could fault. There are none: the spec gives every event of every partner an effect. -/
inductive Fault where
  deriving DecidableEq, Repr

/-- The reasons a step could refuse a command. -/
inductive Refusal where
  /-- A command that has no meaning yet, by the name the table gives it; raised by exec's arms only. Safe: the model
  stops. No arm raises it, since every row has its meaning. -/
  | notModelled (mnemonic : String)
  deriving DecidableEq, Repr

/-- The outcome of a command. -/
abbrev Answer := Host.Outcome State Fault Refusal

/-! ### Power-on reset -/

/-- The management port after power-on reset (R141). -/
def Port.powerOn : Port where
  ready := false
  run := false
  cmdProducer := 0
  cmdConsumer := 0
  cplProducer := 0
  cplConsumer := 0
  reservations := 0
  window := []
  latched := 0#32
  enables := 0#32
  snapshot := 0#16
  readData := 0#32

/-- The lease timer after power-on reset (section 6.1). -/
def Timer.powerOn : Timer where
  timeBase := 0
  divider := 1000
  enable := false
  dividerCount := 0
  waiting := none

/-- The sweep parameters after power-on reset (section 10.1). -/
def SweepParams.powerOn : SweepParams where
  selector := none
  classValue := 0#8
  classMask := 0#8
  onProvisional := false
  onActive := false
  onHeld := false
  action := .count

/-- The sweep unit after power-on reset (section 10.1). -/
def Sweep.powerOn : Sweep where
  state := .idle
  cursor := 0
  visited := 0
  matched := 0
  acted := 0
  params := SweepParams.powerOn
  pendingSweep := none
  pendingSuspend := none
  presented := false

/-- The part right after power-on reset: the port in INIT, every block at its power-on values (R141, R3, R21, R29, R39,
R48, R76, R99, R100, R167), no command waiting. -/
def State.reset : State where
  port := Port.powerOn
  inExec := none
  seed := 0#11
  domains := Vector.replicate 16 DomainEntry.powerOn
  profiles := Vector.replicate 64 { rate := 0, burst := 0 }
  chans := Vector.replicate 4 Channel.powerOn
  table := FlowTable.initial
  lastGranted := .lt
  opAtTable := none
  timer := Timer.powerOn
  sweep := Sweep.powerOn
  freeCount := 0
  pending := []

end Sys2Proof.Machine
end

