-- ==== Sys2Proof/Machine/Formats.lean ====
section
/-! DEFINITION. The codes and layouts of what the part writes: completion records (R149, R150, R182) and outbound frames
(R183, R56). Completion records are numbers here, byte +0 the least significant (R179). -/

namespace Sys2Proof.Machine

/-! ### Codes -/

/-- Record state codes (R16). -/
def RecState.code : RecState → Nat
  | .free => 0
  | .provisional => 1
  | .active => 2
  | .held => 3
  | .closing => 4

/-- Close reason codes (R16); an absent reason is 0. -/
def CloseReason.code : CloseReason → Nat
  | .retired => 1
  | .idle => 2
  | .swept => 3
  | .damaged => 4

/-- Origin codes (R16). -/
def Origin.code : Origin → Nat
  | .lc c => c.val
  | .host => 4

/-- Learn mode codes (section 3.1). -/
def LearnMode.code : LearnMode → Nat
  | .off => 0
  | .confirm => 1
  | .auto => 2

/-- Channel state codes (R55). -/
def ChanState.code : ChanState → Nat
  | .disabled => 0
  | .opened => 1
  | .draining => 2
  | .fault => 3

/-- Fault reason codes (R55). -/
def FaultReason.code : FaultReason → Nat
  | .none => 0
  | .overrun => 1
  | .badCheck => 2
  | .unknownKind => 3
  | .badSize => 4

/-- CLOSE_NOTICE reason codes (R55). -/
def NoticeReason.code : NoticeReason → Nat
  | .host => 1
  | .fault => 2
  | .reset => 3

/-- Sweep state codes (section 8.1, STATUS bits 6..4). -/
def SweepState.code : SweepState → Nat
  | .idle => 0
  | .running => 1
  | .suspending => 2
  | .suspended => 3
  | .aborting => 4

/-- Status codes (section 8.5). -/
def Status.code : Status → Nat
  | .ok => 0
  | .unknownCommand => 1
  | .badArgument => 2
  | .stale => 3
  | .notFound => 4
  | .exists => 5
  | .wrongState => 6
  | .quota => 7
  | .full => 8
  | .busy => 9
  | .notRunning => 10
  | .aborted => 11
  | .empty => 12
  | .notEmpty => 13
  | .domainOff => 14
  | .backward => 15
  | .damaged => 16

/-- Verdict codes (R183, second table). -/
def Verdict.code : Verdict → Nat
  | .conform => 1
  | .exceed => 2
  | .held => 3
  | .provisional => 4
  | .closed => 5
  | .learned => 6
  | .miss => 7
  | .found => 8
  | .accepted => 9
  | .stale => 10
  | .refused => 11
  | .domainOff => 12
  | .badRequest => 13
  | .channelClosed => 14

/-- Reason codes, each within its verdict (R183, second table). -/
def Reason.code : Reason → Nat
  | .none => 0
  | .retired => 1
  | .idle => 2
  | .swept => 3
  | .conform => 1
  | .exceed => 2
  | .learnOff => 1
  | .quota => 2
  | .full => 3
  | .domain => 1
  | .learnFlag => 2
  | .length => 3
  | .handle => 4
  | .disabled => 1
  | .draining => 2

/-- A yes/no field (R181). -/
def flagCode (b : Bool) : Nat := if b then 1 else 0

/-! ### Completion records -/

/-- A value placed in the `width` bits of a record that start at bit `off`. -/
def place (off width v : Nat) : Nat := v % 2 ^ width * 2 ^ off

/-- A value placed in the `size` bytes of a record that start at byte `off`. -/
def placeBytes (off size v : Nat) : Nat := place (8 * off) (8 * size) v

/-- The kind code of the timer field (R182, record layout). -/
def TimerField.kind : TimerField → Nat
  | .none => 0
  | .deadline _ => 1
  | .holdEnd _ => 2
  | .closeReason _ => 3

/-- The value of the timer field (R182, record layout). -/
def TimerField.value : TimerField → Nat
  | .none => 0
  | .deadline t => t
  | .holdEnd t => t
  | .closeReason r => r.code

/-- The record layout from byte +3 on (R182). -/
def RecordFields.bits (r : RecordFields) : Nat :=
  place 29 1 (flagCode r.reliable) + place 30 1 (flagCode r.pinned) + place 31 1 (flagCode r.reported)
  + place 32 14 r.handle + place 46 2 r.timer.kind + placeBytes 6 1 r.generation.toNat
  + place 56 3 r.state.code + place 59 3 r.origin + place 62 4 r.domain + place 66 6 r.profile
  + placeBytes 9 1 r.cls.toNat + placeBytes 10 2 r.leaseInterval + placeBytes 12 3 r.tokens
  + placeBytes 15 16 r.key.toNat + placeBytes 31 6 r.timer.value + placeBytes 37 6 r.meterTime
  + placeBytes 43 6 r.created + placeBytes 49 5 r.packets + placeBytes 54 6 r.bytes + placeBytes 60 4 r.exceeds

/-- The result fields at their positions (R182, tables of section 11.3). -/
def Results.bits : Results → Nat
  | .none => 0
  | .seed sd => placeBytes 4 2 sd.toNat
  | .domain n e c =>
    placeBytes 4 1 n.val + placeBytes 5 1 e.learnMode.code + placeBytes 6 1 e.learnClass.toNat
    + placeBytes 7 1 e.learnProfile.val + placeBytes 10 2 e.learnLease + placeBytes 12 2 e.timeout
    + placeBytes 14 2 e.quota + placeBytes 16 1 (flagCode e.enabled) + placeBytes 17 1 (flagCode e.autoRelease)
    + placeBytes 18 2 c + placeBytes 32 16 e.mask.toNat
  | .domainCount c => placeBytes 18 2 c
  | .insertQuota n q c => placeBytes 8 1 n.val + placeBytes 14 2 q + placeBytes 18 2 c
  | .profile n p => placeBytes 4 1 n.val + placeBytes 8 4 p.rate + placeBytes 12 4 p.burst
  | .channel n a st f u =>
    placeBytes 4 1 n + placeBytes 5 1 a + placeBytes 6 1 st + placeBytes 7 1 f + placeBytes 8 1 u
  | .tick d en tb => placeBytes 4 4 d + placeBytes 8 1 (flagCode en) + placeBytes 16 6 tb
  | .time tb => placeBytes 16 6 tb
  | .record r => r.bits
  | .sweep st cur v m a =>
    placeBytes 4 1 st.code + placeBytes 6 2 cur + placeBytes 8 2 v + placeBytes 10 2 m + placeBytes 12 2 a

/-- A completion record of 64 bytes: the common header and the results (R150, R182). -/
def completionBits (tag : BitVec 16) (kind : Byte) (st : Status) (r : Results) : Nat :=
  placeBytes 0 2 tag.toNat + placeBytes 2 1 kind.toNat + place 24 5 st.code + r.bits

/-! ### Outbound frames -/

/-- The bytes of an outbound frame, its check at the end (R183, R56). -/
def OutFrame.bytes : OutFrame → List Byte
  | .response tag r => withCheck
      ([0x81#8, tag, BitVec.ofNat 8 r.verdict.code, BitVec.ofNat 8 r.reason.code] ++ bytesBE 2 r.handle
        ++ [r.generation, r.cls, BitVec.ofNat 8 r.state.code] ++ bytesBE 2 r.holdRemaining)
  | .creditGrant n => withCheck [0x82#8, BitVec.ofNat 8 n]
  | .closeNotice reason => withCheck [0x83#8, BitVec.ofNat 8 reason.code]

end Sys2Proof.Machine
end

