-- ==== Sys2Proof/Machine/Memory.lean ====
section
/-! DEFINITION. The sparse stores: (key, value) pairs in one canonical form, keys strictly rising and no value equal to
what an unlisted key reads as. The window's slot bytes and the slots of the flow table are kept so. -/

namespace Sys2Proof.Machine

/-- The value at key `n`; an unlisted key reads `d`. -/
def cellGet {α : Type} (d : α) : List (Nat × α) → Nat → α
  | [], _ => d
  | (k, v) :: m, n => if n = k then v else cellGet d m n

/-- Puts a pair at its place in a list that does not hold its key. -/
def cellInsert {α : Type} (n : Nat) (v : α) : List (Nat × α) → List (Nat × α)
  | [] => [(n, v)]
  | (k, w) :: m => if n < k then (n, v) :: (k, w) :: m else (k, w) :: cellInsert n v m

/-- Writes `v` at key `n`; writing what an unlisted key reads as removes the pair. -/
def cellSet {α : Type} [DecidableEq α] (d : α) (m : List (Nat × α)) (n : Nat) (v : α) : List (Nat × α) :=
  if v = d then m.filter (fun p => p.1 ≠ n) else cellInsert n v (m.filter (fun p => p.1 ≠ n))

/-- The canonical form: keys strictly rising, no pair holding what an unlisted key reads as. -/
abbrev cellsWf {α : Type} [DecidableEq α] (d : α) (m : List (Nat × α)) : Prop :=
  m.Pairwise (fun p q => p.1 < q.1) ∧ ∀ p ∈ m, p.2 ≠ d

/-- The byte of the window's slots at an offset; an unlisted byte reads 0, as after power-on reset (R141). -/
def loadByte (m : List Host.Cell) (off : Nat) : Byte :=
  cellGet 0#8 m off

/-- Stores one byte of the window's slots. -/
def storeByte (m : List Host.Cell) (off : Nat) (b : Byte) : List Host.Cell :=
  cellSet 0#8 m off b

/-- `n` bytes from an offset on, least significant byte at the lowest offset (R179). -/
def loadLE (m : List Host.Cell) (off : Nat) : Nat → Nat
  | 0 => 0
  | n + 1 => (loadByte m off).toNat + 256 * loadLE m (off + 1) n

/-- Stores `n` bytes from an offset on, least significant byte at the lowest offset (R179). -/
def storeLE (m : List Host.Cell) (off : Nat) : Nat → Nat → List Host.Cell
  | 0, _ => m
  | n + 1, v => storeLE (storeByte m off (BitVec.ofNat 8 v)) (off + 1) n (v / 256)

/-- The canonical form of the two sparse stores of a state. -/
abbrev Memory.wf (s : State) : Prop :=
  cellsWf 0#8 s.port.window ∧ cellsWf Slot.powerOn s.table.slots

end Sys2Proof.Machine
end

