-- ==== Sys2Proof/Machine/Flags.lean ====
section
/-! DEFINITION. What the outside reads of the part: the table as seen from outside, the interrupt causes and line, STATUS,
and every window word (R31, R139, R140, R151, R152). -/

namespace Sys2Proof.Machine

/-- The flow table as the outside sees it: while an operation is at the table, as it was before that operation (R31). -/
def State.seen (s : State) : FlowTable :=
  match s.opAtTable with
  | some op => op.before
  | none => s.table

/-- A lookup channel. -/
def State.chan (s : State) (c : Fin 4) : Channel := s.chans[c]

/-- Writes a lookup channel. -/
def State.setChan (s : State) (c : Fin 4) (x : Channel) : State :=
  { s with chans := s.chans.set c.val x c.isLt }

/-- The occupancy of the command queue (R143). -/
def Port.occupancy (p : Port) : Nat := (p.cmdProducer + 32 - p.cmdConsumer) % 32

/-- The entries of the completion queue (R149). -/
def Port.entries (p : Port) : Nat := (p.cplProducer + 64 - p.cplConsumer) % 64

/-! ### Causes (R151, R152) -/

/-- Bit `i` of a window word when a condition holds. -/
def bitIf (i : Nat) (b : Bool) : Word := if b then 1#32 <<< i else 0#32

/-- The READY cause's bit. -/
def readyBit : Word := 0x8#32

/-- The INDEX_ERROR cause's bit. -/
def indexErrorBit : Word := 0x10#32

/-- The fault cause's bit of a channel. -/
def faultBit (c : Fin 4) : Word := 1#32 <<< (8 + c.val)

/-- The bits of the nine causes: 0..4 and 8..11. -/
def causeMask : Word := 0xF1F#32

/-- The level causes as their owners show them: CPL, LEARNED, CLOSED (R151). -/
def State.levelCauses (s : State) : Word :=
  bitIf 0 (s.port.entries > 0) ||| bitIf 1 (!s.seen.learned.isEmpty) ||| bitIf 2 (!s.seen.closed.isEmpty)

/-- The CAUSE word: every cause present, enabled or not (R151). -/
def State.causes (s : State) : Word := s.levelCauses ||| s.port.latched

/-- The interrupt line: asserted while at least one cause is both present and enabled (R152). -/
def State.interruptLine (s : State) : Bool := s.causes &&& s.port.enables ≠ 0#32

/-- Latches a cause (R151). -/
def State.latch (s : State) (bit : Word) : State :=
  { s with port := { s.port with latched := s.port.latched ||| bit } }

/-- Clears latched causes (R151). -/
def State.unlatch (s : State) (bits : Word) : State :=
  { s with port := { s.port with latched := s.port.latched &&& ~~~bits } }

/-! ### Window reads (R139, R140) -/

/-- The STATUS word (R140, section 8.1). -/
def State.status (s : State) : Word :=
  bitIf 0 s.port.ready ||| bitIf 1 s.port.run ||| BitVec.ofNat 32 (s.sweep.state.code * 16)
    ||| BitVec.ofNat 32 ((s.chan 0).state.code * 256) ||| BitVec.ofNat 32 ((s.chan 1).state.code * 1024)
    ||| BitVec.ofNat 32 ((s.chan 2).state.code * 4096) ||| BitVec.ofNat 32 ((s.chan 3).state.code * 16384)

/-- The word that a read of a window offset returns; the two lowest address bits are ignored (R139). The one effect a read
can have, the latch of a TIME_LOW read, is the command TIME_LOW_READ. -/
def State.readWord (s : State) (offset : BitVec 12) : Word :=
  let o := offset.toNat / 4 * 4
  if o = 0x000 then 0x3C220801#32
  else if o = 0x004 then s.status
  else if o = 0x008 then bitIf 0 s.port.run
  else if o = 0x00C then s.causes
  else if o = 0x010 then s.port.enables
  else if o = 0x014 then BitVec.ofNat 32 s.port.cmdProducer
  else if o = 0x018 then BitVec.ofNat 32 s.port.cmdConsumer
  else if o = 0x01C then BitVec.ofNat 32 s.port.cplProducer
  else if o = 0x020 then BitVec.ofNat 32 s.port.cplConsumer
  else if o = 0x024 then BitVec.ofNat 32 s.timer.timeBase
  else if o = 0x028 then s.port.snapshot.setWidth 32
  else if 0x100 ≤ o ∧ o < 0xC00 then BitVec.ofNat 32 (loadLE s.port.window o 4)
  else 0#32

end Sys2Proof.Machine
end

