-- ==== Sys2Proof/Machine/Arbiter.lean ====
section
/-! DEFINITION. The table arbiter (section 2.6): who waits, who is granted next, the grant of an operation, its end, and
the marks that an abandoned operation carries (R28 to R31, R65, R154, R178). -/

namespace Sys2Proof.Machine

/-- The ring of requesters (section 2.6). -/
def ring : List Requester := [.lc 0, .lc 1, .lc 2, .lc 3, .cp, .su, .lt]

/-- A requester's place in the ring. -/
def Requester.place : Requester → Nat
  | .lc c => c.val
  | .cp => 4
  | .su => 5
  | .lt => 6

/-- The seven requesters in ring order, beginning after a given one and ending with it (R29). -/
def ringAfter (r : Requester) : List Requester :=
  ring.drop (r.place + 1) ++ ring.take (r.place + 1)

/-- Whether an operation of a requester is at the table (R28). -/
def State.atTable (s : State) (r : Requester) : Bool :=
  match s.opAtTable with
  | some op => op.requester = r
  | none => false

/-- Whether a requester's operation waits at the arbiter (R28). -/
def State.waits (s : State) : Requester → Bool
  | .lc c => (s.chan c).presented
  | .cp => match s.inExec with
    | some e => e.phase = .waiting
    | none => false
  | .su => s.sweep.presented
  | .lt => s.timer.waiting.isSome

/-- The requester whose operation the arbiter grants next, if the table is free and one waits (R29). -/
def State.nextGrant (s : State) : Option Requester :=
  match s.opAtTable with
  | some _ => none
  | none => (ringAfter s.lastGranted).find? s.waits

/-- A requester's operation is no longer waiting: it has been granted. -/
def State.leaveWait (s : State) : Requester → State
  | .lc c => s.setChan c { s.chan c with presented := false }
  | .cp => { s with inExec := s.inExec.map (fun e => { e with phase := .atTable }) }
  | .su => { s with sweep := { s.sweep with presented := false } }
  | .lt => { s with timer := { s.timer with waiting := none } }

/-- The grant of a requester's operation and all it does at the table (R29, R31): `s` is the state at the grant, `t` the
table as the operation leaves it, `o` its result. -/
def State.grant (s : State) (r : Requester) (t : FlowTable) (o : OpOutcome) : State :=
  { s.leaveWait r with
    table := t
    lastGranted := r
    opAtTable := some { requester := r, before := s.table, abandoned := false, outcome := o } }

/-- The operation at the table has ended: the table is free, and the outside sees it as the operation left it (R31). -/
def State.endOp (s : State) : State := { s with opAtTable := none }

/-- Marks a requester's operation at the table, if there is one: it will run to its end and its result will be discarded
(R65, R154, R178). -/
def State.abandon (s : State) (r : Requester) : State :=
  match s.opAtTable with
  | some op => if op.requester = r then { s with opAtTable := some { op with abandoned := true } } else s
  | none => s

end Sys2Proof.Machine
end

