-- ==== Sys2Proof/Machine/Operands.lean ====
section
/-! DEFINITION. The operands of the commands: the fields of a descriptor (R181), the argument checks made at the take
(R146), and the range checks of a channel's request (R58). -/

namespace Sys2Proof.Machine

/-! ### Descriptor fields (R179, R181) -/

/-- The field of `size` bytes at offset `off` of a descriptor. -/
def fieldAt (d : Descriptor) (off size : Nat) : Nat :=
  d.toNat / 2 ^ (8 * off) % 2 ^ (8 * size)

/-- The tag of a descriptor. -/
def tagOf (d : Descriptor) : BitVec 16 := BitVec.ofNat 16 (fieldAt d 0 2)

/-- The kind of a descriptor. -/
def kindOf (d : Descriptor) : Byte := BitVec.ofNat 8 (fieldAt d 2 1)

/-- The handle of a lease reference (HOLD, CONFIRM, REJECT, RETIRE, QUERY, MODIFY, COLLECT). -/
def handleOf (d : Descriptor) : Nat := fieldAt d 4 2

/-- The generation of a lease reference. -/
def generationOf (d : Descriptor) : Byte := BitVec.ofNat 8 (fieldAt d 6 1)

/-- The domain number of SET_DOMAIN, QUERY_DOMAIN, INSERT and FIND, once it has been checked. -/
def domainOf (d : Descriptor) : Fin 16 := Fin.ofNat 16 (fieldAt d 4 1)

/-- The profile number of SET_PROFILE and QUERY_PROFILE, once it has been checked. -/
def profileOf (d : Descriptor) : Fin 64 := Fin.ofNat 64 (fieldAt d 4 1)

/-- The class of CONFIRM, INSERT and MODIFY, once it has been checked. -/
def classArg (d : Descriptor) : Byte := BitVec.ofNat 8 (fieldAt d 8 2)

/-- The profile of CONFIRM, INSERT and MODIFY, once it has been checked. -/
def profileArg (d : Descriptor) : Fin 64 := Fin.ofNat 64 (fieldAt d 10 1)

/-- The pinned setting of CONFIRM, INSERT and MODIFY, once it has been checked. -/
def pinnedArg (d : Descriptor) : Bool := fieldAt d 11 1 = 1

/-- The lease interval of CONFIRM, INSERT and MODIFY. -/
def leaseArg (d : Descriptor) : Nat := fieldAt d 12 4

/-- The key of INSERT and FIND. -/
def keyArg (d : Descriptor) : Key := BitVec.ofNat 128 (fieldAt d 16 16)

/-- Bit `i` of the field-select set of MODIFY. -/
def modifySelects (d : Descriptor) (i : Nat) : Bool := (fieldAt d 16 1).testBit i

/-- Bit `i` of the field-select set of SET_DOMAIN. -/
def domainSelects (d : Descriptor) (i : Nat) : Bool := (fieldAt d 8 2).testBit i

/-! ### Argument checks (R146): true when every argument is in range -/

/-- SET_SEED (R22). -/
def checkSetSeed (d : Descriptor) : Bool := fieldAt d 4 2 ≤ 2047

/-- SET_DOMAIN (R45). -/
def checkSetDomain (d : Descriptor) : Bool :=
  fieldAt d 4 1 ≤ 15
  && (!domainSelects d 2 || fieldAt d 5 1 ≤ 2)
  && (!domainSelects d 4 || fieldAt d 7 1 ≤ 63)
  && (!domainSelects d 6 || fieldAt d 12 2 ≠ 0)
  && (!domainSelects d 8 || fieldAt d 14 2 ≤ 8256)
  && (!domainSelects d 0 || fieldAt d 16 1 ≤ 1)
  && (!domainSelects d 7 || fieldAt d 17 1 ≤ 1)
  && fieldAt d 8 2 < 512

/-- QUERY_DOMAIN and FIND (R47, R159). -/
def checkDomain (d : Descriptor) : Bool := fieldAt d 4 1 ≤ 15

/-- SET_PROFILE (R49). -/
def checkSetProfile (d : Descriptor) : Bool :=
  fieldAt d 4 1 ≠ 0 && fieldAt d 4 1 ≤ 63 && fieldAt d 8 4 ≤ 1048575 && fieldAt d 12 4 ≤ 16777215

/-- QUERY_PROFILE (R50). -/
def checkProfile (d : Descriptor) : Bool := fieldAt d 4 1 ≤ 63

/-- CHANNEL_CONTROL (R72). -/
def checkChannelControl (d : Descriptor) : Bool :=
  fieldAt d 4 1 ≤ 3 && 1 ≤ fieldAt d 5 1 && fieldAt d 5 1 ≤ 3

/-- SET_TICK (R101). -/
def checkSetTick (d : Descriptor) : Bool :=
  1 ≤ fieldAt d 4 4 && fieldAt d 4 4 ≤ 65536 && fieldAt d 8 1 ≤ 1

/-- SET_TIME (R103). -/
def checkSetTime (d : Descriptor) : Bool := fieldAt d 8 8 ≤ Config.timeMax

/-- A lease reference (R2): REJECT, RETIRE, QUERY, COLLECT. -/
def checkReference (d : Descriptor) : Bool := handleOf d ≤ 8255

/-- HOLD (R116). -/
def checkHold (d : Descriptor) : Bool := checkReference d && fieldAt d 8 4 ≤ 65535

/-- The class, profile, lease interval and pinned setting of CONFIRM and INSERT (R125, R155). -/
def checkSettings (d : Descriptor) : Bool :=
  fieldAt d 8 2 ≤ 255 && fieldAt d 10 1 ≤ 63 && leaseArg d ≤ 65535 && fieldAt d 11 1 ≤ 1

/-- CONFIRM (R125). -/
def checkConfirm (d : Descriptor) : Bool := checkReference d && checkSettings d

/-- INSERT (R155). -/
def checkInsert (d : Descriptor) : Bool := checkDomain d && checkSettings d

/-- MODIFY: the values of selected fields, and no bit above 3 in the field-select set (R161). -/
def checkModify (d : Descriptor) : Bool :=
  checkReference d
  && fieldAt d 16 1 < 16
  && (!modifySelects d 0 || fieldAt d 8 2 ≤ 255)
  && (!modifySelects d 1 || fieldAt d 10 1 ≤ 63)
  && (!modifySelects d 2 || leaseArg d ≤ 65535)
  && (!modifySelects d 3 || fieldAt d 11 1 ≤ 1)

/-- SWEEP (R168, R180). -/
def checkSweep (d : Descriptor) : Bool :=
  (fieldAt d 4 1 ≤ 15 || fieldAt d 4 1 = 255)
  && fieldAt d 5 1 < 8
  && fieldAt d 6 1 ≤ 4
  && fieldAt d 8 2 ≤ 255
  && fieldAt d 10 2 ≤ 255
  && (fieldAt d 6 1 ≠ 2 || fieldAt d 12 2 ≤ 255)
  && (fieldAt d 6 1 ≠ 3 || fieldAt d 7 1 ≤ 63)

/-- Arguments of a command that carries none (R181). -/
def checkNothing (_ : Descriptor) : Bool := true

/-- The parameters of a SWEEP that passes its checks (R168, R181). -/
def sweepParams (d : Descriptor) : SweepParams where
  selector := if fieldAt d 4 1 = 255 then none else some (Fin.ofNat 16 (fieldAt d 4 1))
  classValue := BitVec.ofNat 8 (fieldAt d 8 2)
  classMask := BitVec.ofNat 8 (fieldAt d 10 2)
  onProvisional := (fieldAt d 5 1).testBit 0
  onActive := (fieldAt d 5 1).testBit 1
  onHeld := (fieldAt d 5 1).testBit 2
  action := match fieldAt d 6 1 with
    | 1 => .retire
    | 2 => .reclass (BitVec.ofNat 8 (fieldAt d 12 2))
    | 3 => .reprofile (Fin.ofNat 64 (fieldAt d 7 1))
    | 4 => .release
    | _ => .count

/-! ### Requests (R58) -/

/-- The first field of a well-formed request that is out of its range, in the order of R58's table. -/
def badField : RequestBody → Option Reason
  | .lookup domain learnFlag length _ =>
    if domain.toNat > 15 then some .domain
    else if learnFlag.toNat > 1 then some .learnFlag
    else if length.toNat = 0 ∨ length.toNat > 16383 then some .length
    else none
  | .peek domain _ => if domain.toNat > 15 then some .domain else none
  | .hold handle _ _ => if handle.toNat > 8255 then some .handle else none

end Sys2Proof.Machine
end

