-- ==== Sys2Proof/Machine/Completions.lean ====
section
/-! DEFINITION. Taking commands and posting completions (R144 to R150). -/

namespace Sys2Proof.Machine

/-- The window offset of the completion slot of an index (section 8.1, R149). -/
def completionOffset (index : Nat) : Nat := 0x400 + 64 * (index % Config.completionSlots)

/-- The window offset of the command slot of an index (section 8.1, R143). -/
def commandOffset (index : Nat) : Nat := 0x100 + 48 * (index % Config.commandSlots)

/-- Posting a completion: the whole record is written, CPL_PRODUCER advances, and one reservation is consumed (R149). -/
def State.post (s : State) (tag : BitVec 16) (kind : Byte) (st : Status) (r : Results) : State :=
  { s with port := { s.port with
      window := storeLE s.port.window (completionOffset s.port.cplProducer) 64 (completionBits tag kind st r)
      cplProducer := (s.port.cplProducer + 1) % 64
      reservations := s.port.reservations - 1 } }

/-- The completion of a command by its descriptor (R150). -/
def State.postFor (s : State) (d : Descriptor) (st : Status) (r : Results) : State :=
  s.post (tagOf d) (kindOf d) st r

/-- The command in execution posts its completion and leaves execution (R147). -/
def State.complete (s : State) (d : Descriptor) (st : Status) (r : Results) : State :=
  { s.postFor d st r with inExec := none }

/-- The descriptor at an index of the command queue (R143, R144). -/
def State.descriptorAt (s : State) (index : Nat) : Descriptor :=
  BitVec.ofNat 384 (loadLE s.port.window (commandOffset index) 48)

/-- The descriptor at CMD_CONSUMER. -/
def State.nextDescriptor (s : State) : Descriptor := s.descriptorAt s.port.cmdConsumer

/-- The five conditions of a take (R145). -/
def State.canTake (s : State) : Bool :=
  s.port.ready && s.port.run && s.inExec.isNone && !s.atTable .cp && s.port.occupancy > 0
    && s.port.entries + s.port.reservations < Config.completionSlots

/-- The take: the descriptor is copied, CMD_CONSUMER advances, a completion slot is reserved, and the command is in
execution (R145). -/
def State.taken (s : State) : State :=
  { s with
    port := { s.port with
      cmdConsumer := (s.port.cmdConsumer + 1) % 32
      reservations := s.port.reservations + 1 }
    inExec := some { desc := s.nextDescriptor, phase := .taken } }

/-- The take of a command whose descriptor is of the row's kind, and what the command then does; the state is left as it is
when the CP cannot take such a command now (log entries 2, 3). -/
def State.take (s : State) (isRow : Descriptor → Bool) (act : Descriptor → State → State) : State :=
  if s.canTake && isRow s.nextDescriptor then act s.nextDescriptor s.taken else s

/-- A descriptor of a kind code (R181). -/
def ofKind (kind : Byte) (d : Descriptor) : Bool := kindOf d = kind

/-- The command in execution presents its table operation to the arbiter (R28, R147). -/
def State.presentCommand (s : State) (d : Descriptor) : State :=
  { s with inExec := some { desc := d, phase := .waiting } }

/-- The result fields of a refused command whose rule names none for BAD_ARGUMENT (R146, R150). -/
def noResults (_ : Descriptor) (_ : State) : Results := .none

/-- A command that is refused at its argument checks completes BAD_ARGUMENT with the result fields its rule names for that
status; one that passes goes on (R146). -/
def checked (check : Descriptor → Bool) (refused : Descriptor → State → Results) (act : Descriptor → State → State)
    (d : Descriptor) (s : State) : State :=
  if check d then act d s else s.complete d .badArgument (refused d s)

/-- The take of a command that is carried out as one table operation (R147). -/
def State.takeForTable (s : State) (kind : Byte) (check : Descriptor → Bool) (refused : Descriptor → State → Results) :
    State :=
  s.take (ofKind kind) (checked check refused (fun d s => s.presentCommand d))

/-- The grant of the table operation of the command in execution, when it is of the row's kind (R29, R147). -/
def State.commandOperation (s : State) (kind : Byte) (op : Descriptor → State → State × Status × Results) : State :=
  match s.nextGrant, s.inExec with
  | some .cp, some e =>
    if kindOf e.desc = kind then
      let out := op e.desc s
      { out.1 with table := s.table }.grant .cp out.1.table (.completion out.2.1 out.2.2)
    else s
  | _, _ => s

end Sys2Proof.Machine
end

