-- ==== Sys2Proof/Machine/Channels.lean ====
section
/-! DEFINITION. The lookup channels: arrivals, service of the request queue, draining, faults, the end of a channel's table
operation, and CHANNEL_CONTROL (chapter 4). -/

namespace Sys2Proof.Machine

/-- A channel that serves its queue: OPEN or DRAINING (R63, R68). -/
def Channel.serving (ch : Channel) : Bool := ch.state = .opened || ch.state = .draining

/-- Produces frames on a channel's outbound lane (R59). -/
def Channel.send (ch : Channel) (fs : List OutFrame) : Channel := { ch with lane := ch.lane ++ fs }

/-- The RESPONSE of a bad request (R64). -/
def badAnswer (tag : Byte) (reason : Reason) : OutFrame :=
  .response tag { verdict := .badRequest, reason := reason }

/-- The CHANNEL_CLOSED answer of a request (R64, R67, R68). -/
def closedAnswer (tag : Byte) (reason : Reason) : OutFrame :=
  .response tag { verdict := .channelClosed, reason := reason }

/-- The answers of the bad requests at the head of a queue, and the queue behind them (R63). -/
def splitBad : List Request → List OutFrame × List Request
  | [] => ([], [])
  | r :: q => match r.bad with
    | some reason => (badAnswer r.tag reason :: (splitBad q).1, (splitBad q).2)
    | none => ([], r :: q)

/-- Bad requests that have reached the head are answered at once, each lowering the unanswered count (R63). -/
def Channel.answerBad (ch : Channel) : Channel :=
  let parts := splitBad ch.queue
  { ch with
    queue := parts.2
    unanswered := ch.unanswered - parts.1.length
    lane := ch.lane ++ parts.1 }

/-- The waiting CHANNEL_CLOSED answers are produced in order of arrival, each lowering the unanswered count (R68). -/
def Channel.answerWaiting (ch : Channel) : Channel :=
  { ch with
    waitingAnswers := []
    unanswered := ch.unanswered - ch.waitingAnswers.length
    lane := ch.lane ++ ch.waitingAnswers.map (fun tag => closedAnswer tag .draining) }

/-- The result fields of a CHANNEL_CONTROL completion for a channel and an action, as the channel stands (R72). -/
def State.channelResults (s : State) (c : Fin 4) (action : Nat) : Results :=
  .channel c.val action (s.chan c).state.code (s.chan c).faultReason.code (s.chan c).unanswered

/-- A pending CLOSE of a channel completes with a status (R74). -/
def State.endClose (s : State) (c : Fin 4) (st : Status) : State :=
  match (s.chan c).closePending with
  | some tag => (s.setChan c { s.chan c with closePending := none }).post tag 6#8 st (s.channelResults c 2)
  | none => s

/-- The drain ends: DISABLED, CLOSE_NOTICE HOST, the pending CLOSE completes OK (R68). -/
def State.endDrain (s : State) (c : Fin 4) : State :=
  (s.setChan c ({ s.chan c with state := .disabled }.send [.closeNotice .host])).endClose c .ok

/-- Service of a channel's queue: bad requests at the head are answered, a request to be served is presented, and a drained
channel answers its waiting requests and closes (R63, R68). A channel that has an operation at the table presents and
answers nothing until it ends (R63, R65). -/
def State.serve (s : State) (c : Fin 4) : State :=
  if (s.chan c).serving && !s.atTable (.lc c) then
    let ch := (s.chan c).answerBad
    if !ch.queue.isEmpty then s.setChan c { ch with presented := true }
    else if ch.state = .draining then (s.setChan c ch.answerWaiting).endDrain c
    else s.setChan c ch
  else s

/-- What leaving service discards: the queue, a request waiting at the arbiter, the waiting answers, the count (R70, R75,
R77). -/
def Channel.discard (ch : Channel) : Channel :=
  { ch with queue := [], waitingAnswers := [], unanswered := 0, presented := false }

/-- Entry to FAULT (R70). -/
def State.faultChannel (s : State) (c : Fin 4) (reason : FaultReason) : State :=
  let s := s.setChan c
    ({ (s.chan c).discard with state := .fault, faultReason := reason }.send [.closeNotice .fault])
  ((s.abandon (.lc c)).latch (faultBit c)).endClose c .aborted

/-- A well-formed request arrives on a channel (R67, R68, R69, R71). -/
def State.requestArrives (s : State) (c : Fin 4) (tag : Byte) (body : RequestBody) : State :=
  let ch := s.chan c
  match ch.state with
  | .disabled => s.setChan c (ch.send [closedAnswer tag .disabled])
  | .fault => s
  | .opened =>
    if ch.unanswered < Config.credits then
      (s.setChan c { ch with
        queue := ch.queue ++ [{ tag := tag, body := body, bad := badField body }]
        unanswered := ch.unanswered + 1 }).serve c
    else s.faultChannel c .overrun
  | .draining =>
    if ch.unanswered < Config.credits then
      if ch.unanswered = 0 then s.setChan c (ch.send [closedAnswer tag .draining])
      else s.setChan c { ch with waitingAnswers := ch.waitingAnswers ++ [tag], unanswered := ch.unanswered + 1 }
    else s.faultChannel c .overrun

/-- The fault reason that names a frame error (R57, R66). -/
def FrameError.reason : FrameError → FaultReason
  | .badCheck => .badCheck
  | .unknownKind => .unknownKind
  | .badSize => .badSize

/-- A frame arrives on a channel, as bytes (R57): a frame error faults an OPEN or DRAINING channel and is discarded in
DISABLED and FAULT (R67, R70, R71); a frame that passes every test is the request it carries. -/
def State.frameArrives (s : State) (c : Fin 4) (frame : List Byte) : State :=
  match classifyFrame frame with
  | .error e => if (s.chan c).serving then s.faultChannel c (FrameError.reason e) else s
  | .ok (tag, body) => s.requestArrives c tag body

/-- The head of a channel's queue is answered with a service result: the RESPONSE is produced, the head removed, the count
lowered (R63, R64). -/
def Channel.answerHead (ch : Channel) (r : ServiceResult) : Channel :=
  match ch.queue with
  | [] => ch
  | q :: qs => { ch with
      queue := qs
      unanswered := ch.unanswered - 1
      lane := ch.lane ++ [.response q.tag r] }

/-! ### The frame arrivals -/

/-- LOOKUP_FRAME_ARRIVAL (R69). -/
def execLookupFrameArrival (c : Fin 4) (tag domain learnFlag : Byte) (length : BitVec 16) (key : Key) (s : State) :
    Answer :=
  .next (s.requestArrives c tag (.lookup domain learnFlag length key))

/-- PEEK_FRAME_ARRIVAL (R69). -/
def execPeekFrameArrival (c : Fin 4) (tag domain : Byte) (key : Key) (s : State) : Answer :=
  .next (s.requestArrives c tag (.peek domain key))

/-- HOLD_FRAME_ARRIVAL (R69). -/
def execHoldFrameArrival (c : Fin 4) (tag : Byte) (handle : BitVec 16) (generation : Byte) (ticks : BitVec 16)
    (s : State) : Answer :=
  .next (s.requestArrives c tag (.hold handle generation ticks))

/-- BAD_FRAME_ARRIVAL (R57, R70). -/
def execBadFrameArrival (c : Fin 4) (frame : List Byte) (s : State) : Answer :=
  .next (s.frameArrives c frame)

/-- CHANNEL_OPERATION_END (R63, R65): the result is framed as the RESPONSE of the head, or discarded if the channel has
left service since the grant; the channel then serves its queue. -/
def execChannelOperationEnd (s : State) : Answer :=
  match s.opAtTable with
  | some { requester := .lc c, before := _, abandoned := abandoned, outcome := .response r } =>
    if abandoned then .next (s.endOp.serve c)
    else .next ((s.endOp.setChan c ((s.chan c).answerHead r)).serve c)
  | _ => .next s

/-! ### CHANNEL_CONTROL (R72 to R75) -/

/-- The channel that a CHANNEL_CONTROL names, once it has been checked. -/
def channelArg (d : Descriptor) : Fin 4 := Fin.ofNat 4 (fieldAt d 4 1)

/-- A CHANNEL_CONTROL whose action code is a given one. A code that names no action is taken by any of the three rows, and
completes BAD_ARGUMENT (R72, log entry 4). -/
def ofAction (action : Nat) (d : Descriptor) : Bool :=
  kindOf d = 6#8 && (fieldAt d 5 1 = action || !(1 ≤ fieldAt d 5 1 && fieldAt d 5 1 ≤ 3))

/-- The result fields of a CHANNEL_CONTROL completion by its descriptor: the channel number and action as given, and the
channel as it stands, or 0 for a channel number above 3 (R72). -/
def controlResults (d : Descriptor) (s : State) : Results :=
  if fieldAt d 4 1 ≤ 3 then s.channelResults (channelArg d) (fieldAt d 5 1)
  else .channel (fieldAt d 4 1) (fieldAt d 5 1) 0 0 0

/-- A CHANNEL_CONTROL completes with a status. -/
def State.completeControl (s : State) (d : Descriptor) (st : Status) : State :=
  s.complete d st (controlResults d s)

/-- The take of a CHANNEL_CONTROL with its argument checks (R72). -/
def State.takeControl (s : State) (action : Nat) (act : Descriptor → State → State) : State :=
  s.take (ofAction action) (checked checkChannelControl controlResults act)

/-- CHANNEL_CONTROL with action OPEN (R73). -/
def openChannel (d : Descriptor) (s : State) : State :=
  let c := channelArg d
  match (s.chan c).state with
  | .disabled =>
    (s.setChan c ({ s.chan c with state := .opened, queue := [], unanswered := 0 }.send
      [.creditGrant Config.credits])).completeControl d .ok
  | .opened | .draining | .fault => s.completeControl d .wrongState

/-- CHANNEL_CONTROL with action CLOSE (R74). Made DRAINING, the CLOSE leaves execution and is pending (R148). -/
def closeChannel (d : Descriptor) (s : State) : State :=
  let c := channelArg d
  match (s.chan c).state with
  | .opened =>
    if (s.chan c).unanswered > 0 || s.atTable (.lc c) then
      { s.setChan c { s.chan c with state := .draining, closePending := some (tagOf d) } with inExec := none }
    else
      (s.setChan c ({ s.chan c with state := .disabled }.send [.closeNotice .host])).completeControl d .ok
  | .disabled => s.completeControl d .ok
  | .draining | .fault => s.completeControl d .wrongState

/-- CHANNEL_CONTROL with action RESET, in the order of its six steps (R75). -/
def resetChannel (d : Descriptor) (s : State) : State :=
  let c := channelArg d
  let s := s.endClose c .aborted
  let s := s.setChan c
    ({ (s.chan c).discard with state := .disabled, faultReason := .none }.send [.closeNotice .reset])
  ((s.abandon (.lc c)).unlatch (faultBit c)).completeControl d .ok

/-- CHANNEL_CONTROL_OPEN (R73). -/
def execChannelControlOpen (s : State) : Answer := .next (s.takeControl 1 openChannel)

/-- CHANNEL_CONTROL_CLOSE (R74). -/
def execChannelControlClose (s : State) : Answer := .next (s.takeControl 2 closeChannel)

/-- CHANNEL_CONTROL_RESET (R75). -/
def execChannelControlReset (s : State) : Answer := .next (s.takeControl 3 resetChannel)

end Sys2Proof.Machine
end

