-- ==== Sys2Proof/Machine/Ops.lean ====
section
/-! DEFINITION. The operations on the flow table that every command shares: reading and writing slots, the two ordered
queues, damage, freeing, creation, closing, holds, hash, search, placement and the meter (chapters 1, 2, 3, 6, 7). -/

namespace Sys2Proof.Machine

/-! ### Slots -/

/-- The slot of a handle (section 1.1). -/
def FlowTable.slot (t : FlowTable) (h : Nat) : Slot :=
  cellGet Slot.powerOn t.slots h

/-- Writes the slot of a handle. -/
def FlowTable.setSlot (t : FlowTable) (h : Nat) (x : Slot) : FlowTable :=
  { t with slots := cellSet Slot.powerOn t.slots h x }

/-- The directory entry of a handle: always as last written (R3). -/
def FlowTable.dir (t : FlowTable) (h : Nat) : DirEntry := (t.slot h).dir

/-- The stored body of a handle. -/
def FlowTable.body (t : FlowTable) (h : Nat) : Body := (t.slot h).body

/-- Whether a read of the body of a handle finds an uncorrectable error (R8, R33). -/
def FlowTable.bad (t : FlowTable) (h : Nat) : Bool := (t.slot h).bad

/-- Writes a directory entry. -/
def FlowTable.setDir (t : FlowTable) (h : Nat) (e : DirEntry) : FlowTable :=
  t.setSlot h { t.slot h with dir := e }

/-- Changes body fields of a slot, leaving the directory entry and the error mark. -/
def FlowTable.modifyBody (t : FlowTable) (h : Nat) (f : Body → Body) : FlowTable :=
  t.setSlot h { t.slot h with body := f (t.slot h).body }

/-- A damaged record: CLOSING with reason DAMAGED (R6). -/
def DirEntry.damaged (e : DirEntry) : Bool :=
  e.state = .closing && e.closeReason = some .damaged

/-- Matchable: not FREE and not damaged (Terms; section 1.5). -/
def DirEntry.matchable (e : DirEntry) : Bool :=
  e.state ≠ .free && !e.damaged

/-- Stale: the slot is FREE, or its generation is not the reference's (R7). -/
def DirEntry.stale (e : DirEntry) (generation : Byte) : Bool :=
  e.state = .free || e.generation ≠ generation

/-- The record count of a domain (R40). -/
def FlowTable.count (t : FlowTable) (d : Fin 16) : Nat := t.counts[d]

/-- Changes the record count of a domain. -/
def FlowTable.setCount (t : FlowTable) (d : Fin 16) (n : Nat) : FlowTable :=
  { t with counts := t.counts.set d.val n d.isLt }

/-! ### Whole lists and queues -/

/-- Writes the learned list. -/
def FlowTable.setLearned (t : FlowTable) (l : List Nat) : FlowTable := { t with learned := l }

/-- Writes the closed list. -/
def FlowTable.setClosed (t : FlowTable) (l : List Nat) : FlowTable := { t with closed := l }

/-- Writes the expiry queue. -/
def FlowTable.setExpiryQ (t : FlowTable) (q : List (Nat × Nat)) : FlowTable := { t with expiryQ := q }

/-- Writes the hold queue. -/
def FlowTable.setHoldQ (t : FlowTable) (q : List (Nat × Nat)) : FlowTable := { t with holdQ := q }

/-! ### The two ordered queues (R104, R113) -/

/-- A queue without the entry of a handle. -/
def queueRemove (h : Nat) (q : List (Nat × Nat)) : List (Nat × Nat) :=
  q.filter (fun p => p.2 ≠ h)

/-- Puts an entry at its place: by time, and among equal times by handle (R104, R113). -/
def queueInsert (t h : Nat) : List (Nat × Nat) → List (Nat × Nat)
  | [] => [(t, h)]
  | p :: q => if t < p.1 ∨ (t = p.1 ∧ h < p.2) then (t, h) :: p :: q else p :: queueInsert t h q

/-- The time under which a handle stands in a queue. -/
def queueTime (h : Nat) (q : List (Nat × Nat)) : Option Nat :=
  (q.find? (fun p => p.2 = h)).map (fun p => p.1)

/-- A time value `ticks` after `now`, stored as 2^48-1 when the sum is larger (R11). -/
def clampTime (now ticks : Nat) : Nat := min Config.timeMax (now + ticks)

/-- Arms a record: its deadline is set and its one entry stands under it in the expiry queue (R105). -/
def FlowTable.arm (t : FlowTable) (h deadline : Nat) : FlowTable :=
  (t.modifyBody h (fun b => { b with deadline := some deadline })).setExpiryQ
    (queueInsert deadline h (queueRemove h t.expiryQ))

/-- Removes a record from the expiry queue; its deadline becomes absent (R11, R105). -/
def FlowTable.disarm (t : FlowTable) (h : Nat) : FlowTable :=
  (t.modifyBody h (fun b => { b with deadline := none })).setExpiryQ (queueRemove h t.expiryQ)

/-- Arms a record with an interval counted from `now`, or removes it when the interval is 0 (R105). -/
def FlowTable.armLease (t : FlowTable) (h now interval : Nat) : FlowTable :=
  if interval > 0 then t.arm h (clampTime now interval) else t.disarm h

/-- Arms a record with the lease interval stored in it, counted from `now`, when that interval is above 0 (R81, step 3;
R120, step 3). -/
def FlowTable.refresh (t : FlowTable) (h now : Nat) : FlowTable :=
  if (t.body h).leaseInterval > 0 then t.arm h (clampTime now (t.body h).leaseInterval) else t

/-- Enters a record in the hold queue under a hold end, or moves its entry there (R113). -/
def FlowTable.enterHold (t : FlowTable) (h hold : Nat) : FlowTable :=
  (t.modifyBody h (fun b => { b with holdEnd := some hold })).setHoldQ (queueInsert hold h (queueRemove h t.holdQ))

/-- Removes a record from the hold queue; its hold end becomes absent (R11, R113). -/
def FlowTable.leaveHold (t : FlowTable) (h : Nat) : FlowTable :=
  (t.modifyBody h (fun b => { b with holdEnd := none })).setHoldQ (queueRemove h t.holdQ)

/-- Removes a record from the learned list, from wherever it stands (R122). -/
def FlowTable.unlist (t : FlowTable) (h : Nat) : FlowTable := t.setLearned (t.learned.filter (· ≠ h))

/-- Makes the reported field absent, as on leaving PROVISIONAL (R11). -/
def FlowTable.unreport (t : FlowTable) (h : Nat) : FlowTable :=
  t.modifyBody h (fun b => { b with reported := none })

/-! ### Damage, freeing, closing, creation -/

/-- What a body read that finds an uncorrectable error does to a record that is not FREE (R34, R6): it leaves both queues
and the learned list, becomes CLOSING with reason DAMAGED, and joins the tail of the closed list unless it was CLOSING
already. -/
def FlowTable.damage (t : FlowTable) (h : Nat) : FlowTable :=
  (((((t.disarm h).leaveHold h).unlist h).unreport h).setDir h
    { t.dir h with state := .closing, closeReason := some .damaged }).setClosed
      (if (t.dir h).state = .closing then t.closed else t.closed ++ [h])

/-- Freeing a slot (R15): state FREE, generation up by 1 modulo 256, no close reason, domain kept; the count of its domain
falls by 1; it leaves both queues and both lists; the body is not touched. -/
def FlowTable.free (t : FlowTable) (h : Nat) : FlowTable :=
  (((((t.setDir h
    { t.dir h with state := .free, generation := (t.dir h).generation + 1#8, closeReason := none }).setCount
      (t.dir h).domain (t.count (t.dir h).domain - 1)).setExpiryQ (queueRemove h t.expiryQ)).setHoldQ
        (queueRemove h t.holdQ)).setLearned (t.learned.filter (· ≠ h))).setClosed (t.closed.filter (· ≠ h))

/-- Closing an ACTIVE or HELD record with reason RETIRED, IDLE or SWEPT (R130), or freeing it when its domain has
auto-release (R43). -/
def FlowTable.close (t : FlowTable) (h : Nat) (reason : CloseReason) (autoRelease : Bool) : FlowTable :=
  if autoRelease then t.free h
  else
    (((t.disarm h).leaveHold h).setDir h { t.dir h with state := .closing, closeReason := some reason }).setClosed
      (t.closed ++ [h])

/-- Creation in a FREE slot (R13): the directory entry and the whole body are written, with a new code (R8); the domain's
count rises by 1; the record joins the expiry queue if it has a deadline, and the tail of the learned list if it is
PROVISIONAL. -/
def FlowTable.create (t : FlowTable) (h : Nat) (state : RecState) (d : Fin 16) (b : Body) : FlowTable :=
  (((t.setSlot h
    { dir := { state := state, domain := d, generation := (t.dir h).generation, closeReason := none },
      body := b, bad := false }).setCount d (t.count d + 1)).setExpiryQ
        (match b.deadline with
          | some w => queueInsert w h (queueRemove h t.expiryQ)
          | none => t.expiryQ)).setLearned (if state = .provisional then t.learned ++ [h] else t.learned)

/-! ### Holds (R114, R120) -/

/-- Releasing a HELD record: ACTIVE, out of the hold queue, armed afresh with its stored lease interval when that is above
0 (R120). -/
def FlowTable.release (t : FlowTable) (h now : Nat) : FlowTable :=
  ((t.setDir h { t.dir h with state := .active }).leaveHold h).refresh h now

/-- The hold rule on an ACTIVE or HELD record (R114). -/
def FlowTable.holdRule (t : FlowTable) (h now ticks : Nat) : FlowTable :=
  if ticks > 0 then
    ((t.setDir h { t.dir h with state := .held }).disarm h).enterHold h (clampTime now ticks)
  else if (t.dir h).state = .held then t.release h now
  else t

/-! ### Hash, search and placement (R19, R20, R23, R25) -/

/-- Word `i` of a masked key, w0 the most significant 16 bits (R20, step 1). -/
def keyWord (k : Key) (i : Nat) : BitVec 16 := k.extractLsb' (112 - 16 * i) 16

/-- The fold of a masked key (R20, step 2). -/
def keyFold (k : Key) : BitVec 16 :=
  keyWord k 0 ^^^ keyWord k 1 ^^^ keyWord k 2 ^^^ keyWord k 3 ^^^ keyWord k 4 ^^^ keyWord k 5 ^^^ keyWord k 6
    ^^^ keyWord k 7

/-- The bucket of a domain and masked key under a seed (R20, step 3); the terms are numbers of 11 bits. -/
def bucket (seed : BitVec 11) (d : Fin 16) (k : Key) : BitVec 11 :=
  BitVec.ofNat 11 ((keyFold k).toNat % 2048) ^^^ BitVec.ofNat 11 ((keyFold k).toNat / 2048)
    ^^^ BitVec.ofNat 11 (d.val * 128) ^^^ seed

/-- The candidate slots of a bucket in search order: ways 0 to 3, then spill entries 0 to 63 (R23). -/
def candidates (b : BitVec 11) : List Nat :=
  (List.range 4).map (b.toNat * 4 + ·) ++ (List.range 64).map (Config.spillBase + ·)

/-- The search over some candidate slots for a domain and masked key: the table with the damage the body reads found, and
the record found (R23, R35). -/
def FlowTable.searchIn (d : Fin 16) (k : Key) : List Nat → FlowTable → FlowTable × Option Nat
  | [], t => (t, none)
  | h :: hs, t =>
    if !(t.dir h).matchable || (t.dir h).domain ≠ d then searchIn d k hs t
    else if t.bad h then searchIn d k hs (t.damage h)
    else if (t.body h).key = k then (t, some h)
    else searchIn d k hs t

/-- The search for a domain and masked key (R23). -/
def FlowTable.search (t : FlowTable) (seed : BitVec 11) (d : Fin 16) (k : Key) : FlowTable × Option Nat :=
  searchIn d k (candidates (bucket seed d k)) t

/-- Placement: the lowest-numbered FREE way of the bucket, else the lowest-numbered FREE spill entry (R25). -/
def FlowTable.placement (t : FlowTable) (b : BitVec 11) : Option Nat :=
  (candidates b).find? (fun h => (t.dir h).state = .free)

/-! ### The meter (R51, R52, R53) -/

/-- The burst that an assignment of a profile gives: 0 for profile 0 (R53). -/
def burstOf (profiles : Vector Profile 64) (p : Fin 64) : Nat :=
  if p = 0 then 0 else profiles[p].burst

/-- A meter update under a rate and burst: the new tokens, and whether the packet conforms (R51). -/
def meter (p : Profile) (tokens elapsed length : Nat) : Nat × Bool :=
  let filled := min p.burst (tokens + p.rate * elapsed)
  if length ≤ filled then (filled - length, true) else (filled, false)

/-- The meter update of one packet on a body, made under profiles other than 0 (R51, R52). -/
def Body.metered (b : Body) (profiles : Vector Profile 64) (now length : Nat) : Body × Bool :=
  if b.profile = 0 then (b, true)
  else
    let m := meter profiles[b.profile] b.tokens (now - b.meterTime) length
    ({ b with tokens := m.1, meterTime := now }, m.2)

/-- Assignment of a profile: tokens become its burst, meter time becomes now (R53). -/
def Body.assignProfile (b : Body) (profiles : Vector Profile 64) (p : Fin 64) (now : Nat) : Body :=
  { b with profile := p, tokens := burstOf profiles p, meterTime := now }

/-- Counting one packet on a record, each counter saturating on its own (R10, R97). -/
def Body.counted (b : Body) (length : Nat) (conforms : Bool) : Body :=
  { b with
    packets := min Config.packetsMax (b.packets + 1)
    bytes := min Config.bytesMax (b.bytes + length)
    exceeds := if conforms then b.exceeds else min Config.exceedsMax (b.exceeds + 1) }

/-! ### Record images (R17, R182) -/

/-- The full image of a record as the table holds it (R17, R182). -/
def FlowTable.image (t : FlowTable) (h : Nat) : RecordFields :=
  let e := t.dir h
  let b := t.body h
  { handle := h
    generation := e.generation
    state := e.state
    timer := match e.closeReason, b.deadline, b.holdEnd with
      | some r, _, _ => .closeReason r
      | none, some w, _ => .deadline w
      | none, none, some w => .holdEnd w
      | none, none, none => .none
    origin := b.origin.code
    domain := e.domain.val
    profile := b.profile.val
    cls := b.cls
    leaseInterval := b.leaseInterval
    tokens := b.tokens
    key := b.key
    meterTime := b.meterTime
    created := b.created
    packets := b.packets
    bytes := b.bytes
    exceeds := b.exceeds
    reliable := true
    pinned := b.pinned
    reported := b.reported = some true }

/-- The image of a damaged record as FETCH_CLOSED gives it: exact directory fields, body fields as read, marked unreliable
(R136). -/
def FlowTable.damagedImage (t : FlowTable) (h : Nat) (raw : Config.RawBody) : RecordFields :=
  let e := t.dir h
  { handle := h
    generation := e.generation
    state := .closing
    timer := .closeReason .damaged
    origin := raw.origin.toNat
    domain := e.domain.val
    profile := raw.profile.toNat
    cls := raw.cls
    leaseInterval := raw.leaseInterval.toNat
    tokens := raw.tokens.toNat
    key := raw.key
    meterTime := raw.meterTime.toNat
    created := raw.created.toNat
    packets := raw.packets.toNat
    bytes := raw.bytes.toNat
    exceeds := raw.exceeds.toNat
    reliable := false
    pinned := raw.pinned }

/-- The timer field of a completion that carries a record's deadline or hold end with its presence (R116, R126, R162). -/
def FlowTable.timerField (t : FlowTable) (h : Nat) : TimerField :=
  match (t.body h).deadline, (t.body h).holdEnd with
  | some w, _ => .deadline w
  | none, some w => .holdEnd w
  | none, none => .none

end Sys2Proof.Machine
end

