-- ==== Sys2Proof/Machine/Domains.lean ====
section
/-! DEFINITION. The commands on the seed, the domain table and the profile table (R22, R45 to R50). -/

namespace Sys2Proof.Machine

/-! ### SET_SEED (R22) -/

/-- Every directory entry is FREE; an unlisted slot is FREE. -/
def FlowTable.allFree (t : FlowTable) : Bool := t.slots.all (fun p => p.2.dir.state = .free)

/-- SET_SEED at the table (R22). -/
def setSeedOp (d : Descriptor) (s : State) : State × Status × Results :=
  let seed := BitVec.ofNat 11 (fieldAt d 4 2)
  if s.table.allFree then ({ s with seed := seed }, .ok, .seed seed)
  else (s, .notEmpty, .seed s.seed)

/-- SET_SEED (R22). -/
def execSetSeed (s : State) : Answer := .next (s.takeForTable 1#8 checkSetSeed noResults)

/-- SET_SEED_OPERATION (R22). -/
def execSetSeedOperation (s : State) : Answer := .next (s.commandOperation 1#8 setSeedOp)

/-! ### SET_DOMAIN and QUERY_DOMAIN (R45 to R47) -/

/-- The learn mode of a code, once it has been checked (section 3.1). -/
def learnModeOf (code : Nat) : LearnMode :=
  match code with
  | 1 => .confirm
  | 2 => .auto
  | _ => .off

/-- A domain entry with the selected fields of a SET_DOMAIN changed, all together (R46, step 3). -/
def DomainEntry.withFields (e : DomainEntry) (d : Descriptor) : DomainEntry where
  enabled := if domainSelects d 0 then fieldAt d 16 1 = 1 else e.enabled
  mask := if domainSelects d 1 then BitVec.ofNat 128 (fieldAt d 32 16) else e.mask
  learnMode := if domainSelects d 2 then learnModeOf (fieldAt d 5 1) else e.learnMode
  learnClass := if domainSelects d 3 then BitVec.ofNat 8 (fieldAt d 6 1) else e.learnClass
  learnProfile := if domainSelects d 4 then Fin.ofNat 64 (fieldAt d 7 1) else e.learnProfile
  learnLease := if domainSelects d 5 then fieldAt d 10 2 else e.learnLease
  timeout := if domainSelects d 6 then fieldAt d 12 2 else e.timeout
  autoRelease := if domainSelects d 7 then fieldAt d 17 1 = 1 else e.autoRelease
  quota := if domainSelects d 8 then fieldAt d 14 2 else e.quota

/-- SET_DOMAIN at the table: the mask test, the quota test, then the change (R46). -/
def setDomainOp (d : Descriptor) (s : State) : State × Status × Results :=
  let n := domainOf d
  let e := s.domains[n]
  let count := s.table.count n
  let e' := e.withFields d
  if e'.mask ≠ e.mask ∧ count > 0 then (s, .notEmpty, .domain n e count)
  else if domainSelects d 8 ∧ fieldAt d 14 2 < count then (s, .quota, .domain n e count)
  else ({ s with domains := s.domains.set n.val e' n.isLt }, .ok, .domain n e' count)

/-- QUERY_DOMAIN: the entry, and the count as the last operation that has ended left it (R47). -/
def queryDomainAct (d : Descriptor) (s : State) : State :=
  s.complete d .ok (.domain (domainOf d) s.domains[domainOf d] (s.seen.count (domainOf d)))

/-- The result fields of a SET_DOMAIN that is refused at its checks: the count of the domain it names, as QUERY_DOMAIN would
give it, and no other field (R40, R146, log entry 12). A domain above 15 has no count. -/
def setDomainRefused (d : Descriptor) (s : State) : Results :=
  if fieldAt d 4 1 ≤ 15 then .domainCount (s.seen.count (domainOf d)) else .none

/-- SET_DOMAIN (R45). -/
def execSetDomain (s : State) : Answer := .next (s.takeForTable 2#8 checkSetDomain setDomainRefused)

/-- SET_DOMAIN_OPERATION (R46). -/
def execSetDomainOperation (s : State) : Answer := .next (s.commandOperation 2#8 setDomainOp)

/-- QUERY_DOMAIN (R47). -/
def execQueryDomain (s : State) : Answer :=
  .next (s.take (ofKind 3#8) (checked checkDomain noResults queryDomainAct))

/-! ### SET_PROFILE and QUERY_PROFILE (R49, R50) -/

/-- SET_PROFILE: the rate and burst are written together (R49). -/
def setProfileAct (d : Descriptor) (s : State) : State :=
  let p : Profile := { rate := fieldAt d 8 4, burst := fieldAt d 12 4 }
  { s with profiles := s.profiles.set (profileOf d).val p (profileOf d).isLt }.complete d .ok (.profile (profileOf d) p)

/-- QUERY_PROFILE (R50); profile 0 reports rate 0 and burst 0. -/
def queryProfileAct (d : Descriptor) (s : State) : State :=
  s.complete d .ok (.profile (profileOf d)
    (if profileOf d = 0 then { rate := 0, burst := 0 } else s.profiles[profileOf d]))

/-- SET_PROFILE (R49). -/
def execSetProfile (s : State) : Answer :=
  .next (s.take (ofKind 4#8) (checked checkSetProfile noResults setProfileAct))

/-- QUERY_PROFILE (R50). -/
def execQueryProfile (s : State) : Answer :=
  .next (s.take (ofKind 5#8) (checked checkProfile noResults queryProfileAct))

end Sys2Proof.Machine
end

