-- ==== Sys2Proof/Machine/Lookups.lean ====
section
/-! DEFINITION. The requests of the lookup channels at the table: LOOKUP, PEEK and HOLD (chapter 5). -/

namespace Sys2Proof.Machine

/-- The reason of a CLOSED verdict: the record's close reason (R84, R183). A damaged record is never hit. -/
def CloseReason.verdictReason : CloseReason → Reason
  | .retired => .retired
  | .idle => .idle
  | .swept => .swept
  | .damaged => .none

/-- The result that names a record: its reference, class and state as the table holds them (R79). -/
def FlowTable.resultFor (t : FlowTable) (h : Nat) (v : Verdict) : ServiceResult :=
  { verdict := v, handle := h, generation := (t.dir h).generation, cls := (t.body h).cls, state := (t.dir h).state }

/-- Hold remaining: the hold end less now, 0 when it is at or below now (R79). -/
def FlowTable.holdRemaining (t : FlowTable) (h now : Nat) : Nat := ((t.body h).holdEnd.getD 0) - now

/-- A LOOKUP that hits an ACTIVE record: meter, counters, lease (R81). -/
def FlowTable.hitActive (t : FlowTable) (profiles : Vector Profile 64) (h now length : Nat) :
    FlowTable × ServiceResult :=
  let m := (t.body h).metered profiles now length
  let t := (t.modifyBody h (fun _ => m.1.counted length m.2)).refresh h now
  (t, t.resultFor h (if m.2 then .conform else .exceed))

/-- A LOOKUP that hits a record, by the record's state (R81, R83, R84). -/
def FlowTable.hit (t : FlowTable) (profiles : Vector Profile 64) (h now length : Nat) : FlowTable × ServiceResult :=
  match (t.dir h).state with
  | .active => t.hitActive profiles h now length
  | .held => (t, { t.resultFor h .held with holdRemaining := t.holdRemaining h now })
  | .provisional =>
    let t := t.modifyBody h (fun b => b.counted length true)
    (t, t.resultFor h .provisional)
  | .closing =>
    (t, { t.resultFor h .closed with
      reason := match (t.dir h).closeReason with
        | some r => r.verdictReason
        | none => .none })
  | .free => (t, { verdict := .miss })

/-- The body of a record learned in CONFIRM mode (R14, R86). -/
def learnedConfirm (dom : DomainEntry) (c : Fin 4) (k : Key) (now length : Nat) : Body where
  key := k
  cls := dom.learnClass
  profile := 0
  pinned := false
  leaseInterval := 0
  deadline := some (clampTime now dom.timeout)
  holdEnd := none
  tokens := 0
  meterTime := now
  packets := 1
  bytes := length
  exceeds := 0
  origin := .lc c
  created := now
  reported := some false

/-- The body of a record learned in AUTO mode before its first packet is metered and counted (R14, R88). -/
def learnedAuto (dom : DomainEntry) (profiles : Vector Profile 64) (c : Fin 4) (k : Key) (now : Nat) : Body where
  key := k
  cls := dom.learnClass
  profile := dom.learnProfile
  pinned := false
  leaseInterval := dom.learnLease
  deadline := if dom.learnLease > 0 then some (clampTime now dom.learnLease) else none
  holdEnd := none
  tokens := burstOf profiles dom.learnProfile
  meterTime := now
  packets := 0
  bytes := 0
  exceeds := 0
  origin := .lc c
  created := now
  reported := none

/-- Learning in the chosen slot (R86, R88). -/
def FlowTable.learn (t : FlowTable) (dom : DomainEntry) (profiles : Vector Profile 64) (c : Fin 4) (d : Fin 16)
    (k : Key) (h now length : Nat) : FlowTable × ServiceResult :=
  match dom.learnMode with
  | .auto =>
    let m := (learnedAuto dom profiles c k now).metered profiles now length
    let t := t.create h .active d (m.1.counted length m.2)
    (t, { t.resultFor h .learned with reason := if m.2 then .conform else .exceed })
  | .confirm | .off =>
    let t := t.create h .provisional d (learnedConfirm dom c k now length)
    (t, { t.resultFor h .learned with reason := .conform })

/-- A LOOKUP whose search has missed: learn flag and mode, quota, placement, creation (R85). -/
def FlowTable.missed (t : FlowTable) (dom : DomainEntry) (profiles : Vector Profile 64) (c : Fin 4) (d : Fin 16)
    (k : Key) (b : BitVec 11) (learnFlag : Bool) (now length : Nat) : FlowTable × ServiceResult :=
  if !learnFlag || dom.learnMode = .off then (t, { verdict := .miss, reason := .learnOff })
  else if t.count d < dom.quota then
    match t.placement b with
    | some h => t.learn dom profiles c d k h now length
    | none => (t, { verdict := .miss, reason := .full })
  else (t, { verdict := .miss, reason := .quota })

/-- A LOOKUP at the table, from the state at its grant (R80). -/
def State.lookupOp (s : State) (c : Fin 4) (d : Fin 16) (learnFlag : Bool) (length : Nat) (key : Key) :
    FlowTable × ServiceResult :=
  let dom := s.domains[d]
  if !dom.enabled then (s.table, { verdict := .domainOff })
  else
    let k := key &&& dom.mask
    match s.table.search s.seed d k with
    | (t, some h) => t.hit s.profiles h s.timer.timeBase length
    | (t, none) => t.missed dom s.profiles c d k (bucket s.seed d k) learnFlag s.timer.timeBase length

/-- A PEEK at the table (R91). -/
def State.peekOp (s : State) (d : Fin 16) (key : Key) : FlowTable × ServiceResult :=
  let dom := s.domains[d]
  if !dom.enabled then (s.table, { verdict := .domainOff })
  else
    match s.table.search s.seed d (key &&& dom.mask) with
    | (t, some h) =>
      (t, { t.resultFor h .found with
        holdRemaining := if (t.dir h).state = .held then t.holdRemaining h s.timer.timeBase else 0 })
    | (t, none) => (t, { verdict := .miss })

/-- A HOLD request at the table (R93, R94, R115). -/
def State.holdOp (s : State) (h : Nat) (generation : Byte) (ticks : Nat) : FlowTable × ServiceResult :=
  let t := s.table
  let e := t.dir h
  if e.stale generation then (t, { verdict := .stale, handle := h, generation := generation })
  else if e.state ≠ .active ∧ e.state ≠ .held then
    (t, { verdict := .refused, handle := h, generation := generation, state := e.state })
  else if t.bad h then
    (t.damage h, { verdict := .refused, handle := h, generation := generation, state := .closing })
  else
    let t := t.holdRule h s.timer.timeBase ticks
    (t, { t.resultFor h .accepted with
      holdRemaining := if (t.dir h).state = .held then t.holdRemaining h s.timer.timeBase else 0 })

/-- The request at the head of a channel's queue, when that channel is the one the arbiter grants next (R28, R29). -/
def State.grantedRequest (s : State) : Option (Fin 4 × RequestBody) :=
  match s.nextGrant with
  | some (.lc c) => (s.chan c).queue.head?.map (fun q => (c, q.body))
  | _ => none

/-- The grant of a channel's request with what it did at the table. -/
def State.grantRequest (s : State) (c : Fin 4) (out : FlowTable × ServiceResult) : State :=
  s.grant (.lc c) out.1 (.response out.2)

/-- LOOKUP (R80). -/
def execLookup (s : State) : Answer :=
  match s.grantedRequest with
  | some (c, .lookup domain learnFlag length key) =>
    .next (s.grantRequest c
      (s.lookupOp c (Fin.ofNat 16 domain.toNat) (learnFlag = 1#8) length.toNat key))
  | _ => .next s

/-- PEEK (R91). -/
def execPeek (s : State) : Answer :=
  match s.grantedRequest with
  | some (c, .peek domain key) => .next (s.grantRequest c (s.peekOp (Fin.ofNat 16 domain.toNat) key))
  | _ => .next s

/-- HOLD_REQUEST (R93). -/
def execHoldRequest (s : State) : Answer :=
  match s.grantedRequest with
  | some (c, .hold handle generation ticks) =>
    .next (s.grantRequest c (s.holdOp handle.toNat generation ticks.toNat))
  | _ => .next s

end Sys2Proof.Machine
end

