-- ==== Sys2Proof/Machine/Management.lean ====
section
/-! DEFINITION. The management port: start-up, window writes, TIME_LOW reads, port reset, the end of a command's table
operation, unknown commands, and storage events (chapter 8, R33, R102). -/

namespace Sys2Proof.Machine

/-! ### Start-up (R141) -/

/-- POWER_ON_RESET (R141): every block at its power-on values. The waiting commands, the record of the frames produced and
the counter of free values are the model's own and are kept (log entries 9, 10). -/
def execPowerOnReset (s : State) : Answer :=
  .next { State.reset with
    chans := s.chans.map (fun ch => { Channel.powerOn with lane := ch.lane })
    freeCount := s.freeCount
    pending := s.pending }

/-- INIT_PASS_END (R141, R3): the pass has written every directory entry and body; the port becomes READY and the READY
cause is latched. -/
def execInitPassEnd (s : State) : Answer :=
  .next (if s.port.ready then s
    else { s with table := FlowTable.initial, port := { s.port with ready := true } }.latch readyBit)

/-! ### Port reset (R153, R154, R77, R178) -/

/-- A port reset at one channel: DRAINING becomes DISABLED without a completion for the pending CLOSE; the other states are
unchanged (R77). -/
def Channel.portReset (ch : Channel) : Channel :=
  match ch.state with
  | .draining => ({ ch.discard with state := .disabled, closePending := none }.send [.closeNotice .reset])
  | .disabled | .opened | .fault => ch

/-- Whether a port reset takes a requester's operation at the table from it: the CP's and the SU's, and that of a DRAINING
channel (R65, R154, R178). -/
def State.cutByPortReset (s : State) : Requester → Bool
  | .lc c => (s.chan c).state = .draining
  | .cp | .su => true
  | .lt => false

/-- A port reset (R153, R154). -/
def State.portReset (s : State) : State :=
  { s with
    port := { s.port with
      cmdProducer := 0, cmdConsumer := 0, cplProducer := 0, cplConsumer := 0, reservations := 0, latched := 0#32 }
    inExec := none
    chans := s.chans.map Channel.portReset
    opAtTable := s.opAtTable.map (fun op => { op with abandoned := op.abandoned || s.cutByPortReset op.requester })
    sweep := { s.sweep with
      state := .idle, pendingSweep := none, pendingSuspend := none, presented := false } }

/-! ### Window writes (R139 to R143, R149, R151, R152) -/

/-- A CMD_PRODUCER write (R143). -/
def State.writeCmdProducer (s : State) (v : Word) : State :=
  let occupancy := (v.toNat + 32 - s.port.cmdConsumer) % 32
  if v.toNat > 31 ∨ occupancy < s.port.occupancy ∨ occupancy > Config.commandSlots then s.latch indexErrorBit
  else { s with port := { s.port with cmdProducer := v.toNat } }

/-- A CPL_CONSUMER write (R149). -/
def State.writeCplConsumer (s : State) (v : Word) : State :=
  if v.toNat > 63 ∨ (v.toNat + 64 - s.port.cplConsumer) % 64 > s.port.entries then s.latch indexErrorBit
  else { s with port := { s.port with cplConsumer := v.toNat } }

/-- A CAUSE write: a 1 clears a latched cause; the level causes have no latch (R151). -/
def State.writeCause (s : State) (v : Word) : State := s.unlatch v

/-- A CAUSE_ENABLE write: the nine enables at once (R152). -/
def State.writeEnables (s : State) (v : Word) : State :=
  { s with port := { s.port with enables := v &&& causeMask } }

/-- A CONTROL write: run enable from bit 0, and a port reset when bit 1 is set (R142, R153). -/
def State.writeControl (s : State) (v : Word) : State :=
  let s := { s with port := { s.port with run := v.getLsbD 0 } }
  if v.getLsbD 1 then s.portReset else s

/-- A write of a window offset; the two lowest address bits are ignored. A command slot's word stores its bytes; a
read-only word or an unlisted offset ignores the write (R139, R144). -/
def State.writeWord (s : State) (offset : BitVec 12) (v : Word) : State :=
  let o := offset.toNat / 4 * 4
  if o = 0x008 then s.writeControl v
  else if o = 0x00C then s.writeCause v
  else if o = 0x010 then s.writeEnables v
  else if o = 0x014 then s.writeCmdProducer v
  else if o = 0x020 then s.writeCplConsumer v
  else if 0x100 ≤ o ∧ o < 0x400 then { s with port := { s.port with window := storeLE s.port.window o 4 v.toNat } }
  else s

/-- CMD_PRODUCER_WRITE (R143). -/
def execCmdProducerWrite (v : Word) (s : State) : Answer := .next (s.writeCmdProducer v)

/-- CPL_CONSUMER_WRITE (R149). -/
def execCplConsumerWrite (v : Word) (s : State) : Answer := .next (s.writeCplConsumer v)

/-- CAUSE_WRITE (R151). -/
def execCauseWrite (v : Word) (s : State) : Answer := .next (s.writeCause v)

/-- CAUSE_ENABLE_WRITE (R152). -/
def execCauseEnableWrite (v : Word) (s : State) : Answer := .next (s.writeEnables v)

/-- RUN_ENABLE_WRITE (R142): the CONTROL write of a word. -/
def execRunEnableWrite (v : Word) (s : State) : Answer := .next (s.writeControl v)

/-- PORT_RESET (R153): the CONTROL write of a word with bit 1 set. -/
def execPortReset (v : Word) (s : State) : Answer := .next (s.writeControl v)

/-- WINDOW_WRITE (R139). -/
def execWindowWrite (offset : BitVec 12) (v : Word) (s : State) : Answer := .next (s.writeWord offset v)

/-- TIME_LOW_READ (R102): bits 31..0 are returned and bits 47..32 go into the snapshot latch. -/
def execTimeLowRead (s : State) : Answer :=
  .next { s with port := { s.port with
    readData := BitVec.ofNat 32 s.timer.timeBase
    snapshot := BitVec.ofNat 16 (s.timer.timeBase / 2 ^ 32) } }

/-! ### The command processor -/

/-- COMMAND_OPERATION_END (R147, R154): the completion is posted unless a port reset abandoned the command. -/
def execCommandOperationEnd (s : State) : Answer :=
  match s.opAtTable with
  | some { requester := .cp, before := _, abandoned := abandoned, outcome := .completion st r } =>
    if abandoned then .next s.endOp
    else match s.inExec with
      | some e => .next (s.endOp.complete e.desc st r)
      | none => .next s.endOp
  | _ => .next s

/-- A kind code that names no command: 0 and 24..255 (R181). -/
def unknownKind (d : Descriptor) : Bool := (kindOf d).toNat = 0 || (kindOf d).toNat > 23

/-- UNKNOWN_COMMAND (R146). -/
def execUnknownCommand (s : State) : Answer :=
  .next (s.take unknownKind (fun d s => s.complete d .unknownCommand .none))

/-! ### Storage events -/

/-- UNCORRECTABLE_ERROR (R33): the body comes to hold an error that stays unseen until a read finds it or a creation
overwrites it. -/
def execUncorrectableError (h : Nat) (s : State) : Answer :=
  .next (if h < Config.slots then
    { s with table := s.table.setSlot h { s.table.slot h with bad := true } }
  else s)

end Sys2Proof.Machine
end

