-- ==== Sys2Proof/Machine/Records.lean ====
section
/-! DEFINITION. The commands on records: HOLD (R116), learning and retirement (chapter 7), and the record commands
(chapter 9). Each has its take and its table operation. -/

namespace Sys2Proof.Machine

/-- A completion that carries a reference as the descriptor gave it and a state (R182). -/
def refResults (d : Descriptor) (state : RecState) (timer : TimerField := .none) : Results :=
  .record { handle := handleOf d, generation := generationOf d, state := state, timer := timer }

/-- The operation of a command that names a record by reference (R7, R33, R36): STALE, then WRONG_STATE in a state that does
not admit it, both without a body read; then DAMAGED when the body read finds an error; then the command's own act. -/
def onReference (admits : RecState → Bool) (act : Descriptor → State → State × Status × Results) (d : Descriptor)
    (s : State) : State × Status × Results :=
  let h := handleOf d
  let e := s.table.dir h
  if e.stale (generationOf d) then (s, .stale, refResults d .free)
  else if !admits e.state then (s, .wrongState, refResults d e.state)
  else if s.table.bad h then ({ s with table := s.table.damage h }, .damaged, refResults d .closing)
  else act d s

/-- ACTIVE and HELD: the states that HOLD, RETIRE and MODIFY admit (R115, R131, R162). -/
def activeOrHeld (st : RecState) : Bool := st = .active || st = .held

/-- PROVISIONAL: the state that CONFIRM and REJECT admit (R126, R128). -/
def onlyProvisional (st : RecState) : Bool := st = .provisional

/-- PROVISIONAL, ACTIVE and HELD: the states that COLLECT admits (R164). -/
def notClosing (st : RecState) : Bool := st = .provisional || st = .active || st = .held

/-! ### HOLD (R116) -/

/-- The hold rule applied by the HOLD command (R114, R116). -/
def holdAct (d : Descriptor) (s : State) : State × Status × Results :=
  let t := s.table.holdRule (handleOf d) s.timer.timeBase (fieldAt d 8 4)
  ({ s with table := t }, .ok, refResults d (t.dir (handleOf d)).state (t.timerField (handleOf d)))

/-- HOLD (R116). -/
def execHold (s : State) : Answer := .next (s.takeForTable 9#8 checkHold noResults)

/-- HOLD_COMMAND_OPERATION (R115, R116). -/
def execHoldCommandOperation (s : State) : Answer :=
  .next (s.commandOperation 9#8 (onReference activeOrHeld holdAct))

/-! ### FETCH_LEARNED (R123) -/

/-- FETCH_LEARNED at the table (R123). -/
def fetchLearnedOp (_ : Descriptor) (s : State) : State × Status × Results :=
  match s.table.learned with
  | [] => (s, .empty, .none)
  | h :: _ =>
    let e := s.table.dir h
    if s.table.bad h then
      ({ s with table := s.table.damage h }, .damaged,
        .record { handle := h, generation := e.generation, state := .closing, domain := e.domain.val })
    else
      let t := (s.table.unlist h).modifyBody h (fun b => { b with reported := some true })
      ({ s with table := t }, .ok, .record (t.image h))

/-- FETCH_LEARNED (R147). -/
def execFetchLearned (s : State) : Answer := .next (s.takeForTable 10#8 checkNothing noResults)

/-- FETCH_LEARNED_OPERATION (R123). -/
def execFetchLearnedOperation (s : State) : Answer := .next (s.commandOperation 10#8 fetchLearnedOp)

/-! ### CONFIRM and REJECT (R126, R128) -/

/-- CONFIRM of a PROVISIONAL record (R126, step 4). -/
def confirmAct (d : Descriptor) (s : State) : State × Status × Results :=
  let h := handleOf d
  let now := s.timer.timeBase
  let t := s.table.setDir h { s.table.dir h with state := .active }
  let t := t.modifyBody h (fun b =>
    { b.assignProfile s.profiles (profileArg d) now with
      cls := classArg d, leaseInterval := leaseArg d, pinned := pinnedArg d, reported := none })
  let t := (t.armLease h now (leaseArg d)).unlist h
  ({ s with table := t }, .ok, refResults d .active (t.timerField h))

/-- REJECT of a PROVISIONAL record (R128, step 4): the image is the record as it stood at the grant. -/
def rejectAct (d : Descriptor) (s : State) : State × Status × Results :=
  ({ s with table := s.table.free (handleOf d) }, .ok, .record (s.table.image (handleOf d)))

/-- The result fields of a CONFIRM that is refused at its checks: the reference as the descriptor gave it (R126, "Every CONFIRM
completion"), and no other field. A handle above 16383 does not fit its field, which is then a free value (log entry 27). -/
def confirmRefused (d : Descriptor) (_ : State) : Results :=
  let h := handleOf d
  .record { handle := if h < 16384 then h else (Config.wideHandle (BitVec.ofNat 16 h)).toNat, generation := generationOf d }

/-- CONFIRM (R125; R126 for the reference in a BAD_ARGUMENT completion). -/
def execConfirm (s : State) : Answer := .next (s.takeForTable 11#8 checkConfirm confirmRefused)

/-- CONFIRM_OPERATION (R126). -/
def execConfirmOperation (s : State) : Answer :=
  .next (s.commandOperation 11#8 (onReference onlyProvisional confirmAct))

/-- REJECT (R128). -/
def execReject (s : State) : Answer := .next (s.takeForTable 12#8 checkReference noResults)

/-- REJECT_OPERATION (R128). -/
def execRejectOperation (s : State) : Answer :=
  .next (s.commandOperation 12#8 (onReference onlyProvisional rejectAct))

/-! ### RETIRE (R131) -/

/-- RETIRE of an ACTIVE or HELD record (R131, step 4; R132). -/
def retireAct (d : Descriptor) (s : State) : State × Status × Results :=
  let h := handleOf d
  let auto := s.domains[(s.table.dir h).domain].autoRelease
  ({ s with table := s.table.close h .retired auto }, .ok,
    if auto then .record (s.table.image h) else refResults d .closing)

/-- RETIRE (R131). -/
def execRetire (s : State) : Answer := .next (s.takeForTable 13#8 checkReference noResults)

/-- RETIRE_OPERATION (R131). -/
def execRetireOperation (s : State) : Answer :=
  .next (s.commandOperation 13#8 (onReference activeOrHeld retireAct))

/-! ### FETCH_CLOSED (R135) -/

/-- FETCH_CLOSED at the table (R135, R136). The body fields of a damaged record are a free value (log entry 9). -/
def fetchClosedOp (_ : Descriptor) (s : State) : State × Status × Results :=
  match s.table.closed with
  | [] => (s, .empty, .none)
  | h :: _ =>
    if (s.table.dir h).damaged || s.table.bad h then
      ({ s with table := s.table.free h, freeCount := s.freeCount + 1 }, .ok,
        .record (s.table.damagedImage h (Config.damagedBody s.freeCount)))
    else ({ s with table := s.table.free h }, .ok, .record (s.table.image h))

/-- FETCH_CLOSED (R147). -/
def execFetchClosed (s : State) : Answer := .next (s.takeForTable 14#8 checkNothing noResults)

/-- FETCH_CLOSED_OPERATION (R135). -/
def execFetchClosedOperation (s : State) : Answer := .next (s.commandOperation 14#8 fetchClosedOp)

/-! ### INSERT (R155 to R157) -/

/-- The body of an inserted record (R14, R157). -/
def insertedBody (d : Descriptor) (profiles : Vector Profile 64) (k : Key) (now : Nat) : Body where
  key := k
  cls := classArg d
  profile := profileArg d
  pinned := pinnedArg d
  leaseInterval := leaseArg d
  deadline := if leaseArg d > 0 then some (clampTime now (leaseArg d)) else none
  holdEnd := none
  tokens := burstOf profiles (profileArg d)
  meterTime := now
  packets := 0
  bytes := 0
  exceeds := 0
  origin := .host
  created := now
  reported := none

/-- INSERT at the table (R156). -/
def insertOp (d : Descriptor) (s : State) : State × Status × Results :=
  let n := domainOf d
  let dom := s.domains[n]
  if !dom.enabled then (s, .domainOff, .record { domain := n.val })
  else
    let k := keyArg d &&& dom.mask
    match s.table.search s.seed n k with
    | (t, some h) => ({ s with table := t }, .exists,
        .record { handle := h, generation := (t.dir h).generation, state := (t.dir h).state, domain := n.val,
                  timer := match (t.dir h).closeReason with
                    | some r => .closeReason r
                    | none => .none })
    | (t, none) =>
      if t.count n < dom.quota then
        match t.placement (bucket s.seed n k) with
        | some h =>
          let t := t.create h .active n (insertedBody d s.profiles k s.timer.timeBase)
          ({ s with table := t }, .ok,
            .record { handle := h, generation := (t.dir h).generation, state := .active, domain := n.val,
                      timer := t.timerField h })
        | none => ({ s with table := t }, .full, .record { domain := n.val })
      else ({ s with table := t }, .quota, .insertQuota n dom.quota (t.count n))

/-- INSERT (R155). -/
def execInsert (s : State) : Answer := .next (s.takeForTable 15#8 checkInsert noResults)

/-- INSERT_OPERATION (R156). -/
def execInsertOperation (s : State) : Answer := .next (s.commandOperation 15#8 insertOp)

/-! ### FIND and QUERY (R159, R160) -/

/-- FIND at the table (R159). -/
def findOp (d : Descriptor) (s : State) : State × Status × Results :=
  let n := domainOf d
  match s.table.search s.seed n (keyArg d &&& s.domains[n].mask) with
  | (t, some h) => ({ s with table := t }, .ok,
      .record { handle := h, generation := (t.dir h).generation, state := (t.dir h).state, cls := (t.body h).cls,
                timer := match (t.dir h).closeReason with
                  | some r => .closeReason r
                  | none => .none })
  | (t, none) => ({ s with table := t }, .notFound, .none)

/-- The directory fields that QUERY gives of a damaged record (R17, R160). -/
def damagedResults (d : Descriptor) (domain : Fin 16) : Results :=
  .record { handle := handleOf d, generation := generationOf d, state := .closing, domain := domain.val,
            timer := .closeReason .damaged }

/-- QUERY at the table (R160). -/
def queryOp (d : Descriptor) (s : State) : State × Status × Results :=
  let h := handleOf d
  let e := s.table.dir h
  if e.stale (generationOf d) then (s, .stale, refResults d .free)
  else if e.damaged then (s, .damaged, damagedResults d e.domain)
  else if s.table.bad h then ({ s with table := s.table.damage h }, .damaged, damagedResults d e.domain)
  else (s, .ok, .record (s.table.image h))

/-- FIND (R159). -/
def execFind (s : State) : Answer := .next (s.takeForTable 16#8 checkDomain noResults)

/-- FIND_OPERATION (R159). -/
def execFindOperation (s : State) : Answer := .next (s.commandOperation 16#8 findOp)

/-- QUERY (R160). -/
def execQuery (s : State) : Answer := .next (s.takeForTable 17#8 checkReference noResults)

/-- QUERY_OPERATION (R160). -/
def execQueryOperation (s : State) : Answer := .next (s.commandOperation 17#8 queryOp)

/-! ### MODIFY (R161, R162) -/

/-- The selected fields of a MODIFY on a body (R162). -/
def modifyFields (d : Descriptor) (profiles : Vector Profile 64) (now : Nat) (b : Body) : Body :=
  let b := if modifySelects d 0 then { b with cls := classArg d } else b
  let b := if modifySelects d 1 then b.assignProfile profiles (profileArg d) now else b
  let b := if modifySelects d 2 then { b with leaseInterval := leaseArg d } else b
  if modifySelects d 3 then { b with pinned := pinnedArg d } else b

/-- MODIFY of an ACTIVE or HELD record (R162, step 4). -/
def modifyAct (d : Descriptor) (s : State) : State × Status × Results :=
  let h := handleOf d
  let now := s.timer.timeBase
  let t := s.table.modifyBody h (modifyFields d s.profiles now)
  let t := if modifySelects d 2 && (t.dir h).state = .active then t.armLease h now (leaseArg d) else t
  ({ s with table := t }, .ok, refResults d (t.dir h).state (t.timerField h))

/-- MODIFY (R161). -/
def execModify (s : State) : Answer := .next (s.takeForTable 18#8 checkModify noResults)

/-- MODIFY_OPERATION (R162). -/
def execModifyOperation (s : State) : Answer :=
  .next (s.commandOperation 18#8 (onReference activeOrHeld modifyAct))

/-! ### COLLECT (R164) -/

/-- COLLECT of a PROVISIONAL, ACTIVE or HELD record (R164, step 4). -/
def collectAct (d : Descriptor) (s : State) : State × Status × Results :=
  let h := handleOf d
  let b := s.table.body h
  ({ s with table := s.table.modifyBody h (fun b => { b with packets := 0, bytes := 0, exceeds := 0 }) }, .ok,
    .record { handle := h, generation := generationOf d, state := (s.table.dir h).state, packets := b.packets,
              bytes := b.bytes, exceeds := b.exceeds, meterTime := s.timer.timeBase })

/-- COLLECT (R164). -/
def execCollect (s : State) : Answer := .next (s.takeForTable 19#8 checkReference noResults)

/-- COLLECT_OPERATION (R164). -/
def execCollectOperation (s : State) : Answer :=
  .next (s.commandOperation 19#8 (onReference notClosing collectAct))

end Sys2Proof.Machine
end

