-- ==== Sys2Proof/Machine/Sweeps.lean ====
section
/-! DEFINITION. The sweep unit: positions at the table, the walk, and the four sweep commands (chapter 10). -/

namespace Sys2Proof.Machine

/-- The counts of a position or a walk: visited, matched, acted (R167). -/
structure SweepCounts where
  visited : Nat
  matched : Nat
  acted : Nat
  deriving DecidableEq, Repr

/-- Whether a record's state is in the state set (R168, R170). -/
def SweepParams.inStateSet (p : SweepParams) : RecState → Bool
  | .provisional => p.onProvisional
  | .active => p.onActive
  | .held => p.onHeld
  | .free | .closing => false

/-- Whether a record passes the directory test of a walk (R170, step 3). -/
def SweepParams.selects (p : SweepParams) (e : DirEntry) : Bool :=
  p.inStateSet e.state && match p.selector with
    | some d => d = e.domain
    | none => true

/-- The class test (R170, step 5). -/
def SweepParams.classTest (p : SweepParams) (cls : Byte) : Bool :=
  cls &&& p.classMask = p.classValue &&& p.classMask

/-- The action on a matched record that is acted on, and whether it was acted on (R171, R172). -/
def sweepAct (a : SweepAction) (profiles : Vector Profile 64) (domains : Vector DomainEntry 16) (now h : Nat)
    (t : FlowTable) : FlowTable × Bool :=
  let st := (t.dir h).state
  match a with
  | .count => (t, true)
  | .retire =>
    if (t.body h).pinned then (t, false)
    else if st = .provisional then (t.free h, true)
    else (t.close h .swept domains[(t.dir h).domain].autoRelease, true)
  | .reclass c =>
    if (t.body h).pinned || st = .provisional then (t, false)
    else (t.modifyBody h (fun b => { b with cls := c }), true)
  | .reprofile p =>
    if (t.body h).pinned || st = .provisional then (t, false)
    else (t.modifyBody h (fun b => b.assignProfile profiles p now), true)
  | .release =>
    if (t.body h).pinned || st ≠ .held then (t, false) else (t.release h now, true)

/-- One slot of a position (R170). -/
def sweepSlot (p : SweepParams) (profiles : Vector Profile 64) (domains : Vector DomainEntry 16) (now : Nat)
    (acc : FlowTable × SweepCounts) (h : Nat) : FlowTable × SweepCounts :=
  let t := acc.1
  let n := acc.2
  if (t.dir h).state = .free then acc
  else
    let n := { n with visited := n.visited + 1 }
    if !p.selects (t.dir h) then (t, n)
    else if t.bad h then (t.damage h, n)
    else if !p.classTest (t.body h).cls then (t, n)
    else
      let out := sweepAct p.action profiles domains now h t
      (out.1, { n with matched := n.matched + 1, acted := n.acted + if out.2 then 1 else 0 })

/-- The four handles of a position; spill group 2048 + g has handles from 8192 + 4 g (R169). -/
def positionHandles (pos : Nat) : List Nat := (List.range 4).map (4 * pos + ·)

/-- A position at the table: its four slots in handle order (R169, R170). -/
def State.positionOp (s : State) : FlowTable × SweepCounts :=
  (positionHandles s.sweep.cursor).foldl
    (sweepSlot s.sweep.params s.profiles s.domains s.timer.timeBase) (s.table, { visited := 0, matched := 0, acted := 0 })

/-- SWEEP_POSITION (R170). -/
def execSweepPosition (s : State) : Answer :=
  match s.nextGrant with
  | some .su =>
    let out := s.positionOp
    .next (s.grant .su out.1 (.position out.2.visited out.2.matched out.2.acted))
  | _ => .next s

/-- The SU presents the position at the cursor, unless it still has an operation at the table (R169, R178). -/
def State.presentPosition (s : State) : State :=
  if s.atTable .su then s else { s with sweep := { s.sweep with presented := true } }

/-- The five fields that every sweep command completion carries (R167). -/
def State.sweepResults (s : State) : Results :=
  .sweep s.sweep.state s.sweep.cursor s.sweep.visited s.sweep.matched s.sweep.acted

/-- A sweep command in execution completes with a status. -/
def State.completeSweep (s : State) (d : Descriptor) (st : Status) : State :=
  s.complete d st s.sweepResults

/-- Writes the sweep state. -/
def State.setSweepState (s : State) (st : SweepState) : State :=
  { s with sweep := { s.sweep with state := st } }

/-- The pending SWEEP completes with a status (R174, R177). -/
def State.endSweep (s : State) (st : Status) : State :=
  match s.sweep.pendingSweep with
  | some tag => { s with sweep := { s.sweep with pendingSweep := none } }.post tag 20#8 st s.sweepResults
  | none => s

/-- The pending SWEEP_SUSPEND completes with a status (R175, R177). -/
def State.endSuspend (s : State) (st : Status) : State :=
  match s.sweep.pendingSuspend with
  | some tag => { s with sweep := { s.sweep with pendingSuspend := none } }.post tag 21#8 st s.sweepResults
  | none => s

/-- The SWEEP_ABORT in execution completes OK (R177). -/
def State.endAbort (s : State) : State :=
  match s.inExec with
  | some e => s.completeSweep e.desc .ok
  | none => s

/-- What follows a position's end, by the sweep state (R169, R174, R175, R177). A completion posted by the end or the abort
of a walk carries state IDLE (R167). -/
def State.afterPosition (s : State) : State :=
  match s.sweep.state with
  | .running =>
    if s.sweep.cursor < Config.walkEnd then s.presentPosition
    else (s.setSweepState .idle).endSweep .ok
  | .suspending =>
    if s.sweep.cursor < Config.walkEnd then (s.setSweepState .suspended).endSuspend .ok
    else ((s.setSweepState .idle).endSweep .ok).endSuspend .notRunning
  | .aborting => (((s.setSweepState .idle).endSuspend .aborted).endSweep .aborted).endAbort
  | .idle | .suspended => s

/-- A walk that has a position to present or in flight (section 10.1). -/
def SweepState.walking (st : SweepState) : Bool := st = .running || st = .suspending || st = .aborting

/-- SWEEP_POSITION_END (R169). The position of an abandoned walk adds no counts and does not advance the cursor; a walk
accepted meanwhile then presents its first position (R178). -/
def execSweepPositionEnd (s : State) : Answer :=
  match s.opAtTable with
  | some { requester := .su, before := _, abandoned := abandoned, outcome := .position v m a } =>
    if abandoned then .next (if s.sweep.state.walking then s.endOp.presentPosition else s.endOp)
    else
      .next { s.endOp with sweep := { s.sweep with
        cursor := s.sweep.cursor + 1
        visited := s.sweep.visited + v
        matched := s.sweep.matched + m
        acted := s.sweep.acted + a } }.afterPosition
  | _ => .next s

/-! ### The sweep commands -/

/-- SWEEP, once it passes its checks (R168). Accepted, it leaves execution and is pending (R148). -/
def sweepAccept (d : Descriptor) (s : State) : State :=
  match s.sweep.state with
  | .idle =>
    { s with
      inExec := none
      sweep := { s.sweep with
        state := .running, cursor := 0, visited := 0, matched := 0, acted := 0,
        params := sweepParams d, pendingSweep := some (tagOf d) } }.presentPosition
  | .running | .suspending | .suspended | .aborting => s.completeSweep d .busy

/-- SWEEP_SUSPEND (R175). Accepted, it leaves execution and is pending (R148). -/
def sweepSuspendAct (d : Descriptor) (s : State) : State :=
  match s.sweep.state with
  | .running =>
    { s with
      inExec := none
      sweep := { s.sweep with state := .suspending, pendingSuspend := some (tagOf d) } }
  | .suspended => s.completeSweep d .ok
  | .idle => s.completeSweep d .notRunning
  | .suspending | .aborting => s.completeSweep d .busy

/-- SWEEP_RESUME (R176). -/
def sweepResumeAct (d : Descriptor) (s : State) : State :=
  match s.sweep.state with
  | .suspended => (s.setSweepState .running).presentPosition.completeSweep d .ok
  | .idle => s.completeSweep d .notRunning
  | .running | .suspending | .aborting => s.completeSweep d .wrongState

/-- SWEEP_ABORT (R177). In RUNNING and SUSPENDING it stays in execution until the position in flight ends. -/
def sweepAbortAct (d : Descriptor) (s : State) : State :=
  match s.sweep.state with
  | .running | .suspending => { s.setSweepState .aborting with inExec := some { desc := d, phase := .aborting } }
  | .suspended => ((s.setSweepState .idle).endSweep .aborted).completeSweep d .ok
  | .idle => s.completeSweep d .notRunning
  | .aborting => s.completeSweep d .busy

/-- SWEEP (R168). A BAD_ARGUMENT completion carries the five fields too (R167). -/
def execSweep (s : State) : Answer :=
  .next (s.take (ofKind 20#8) (checked checkSweep (fun _ s => s.sweepResults) sweepAccept))

/-- SWEEP_SUSPEND (R175). -/
def execSweepSuspend (s : State) : Answer := .next (s.take (ofKind 21#8) sweepSuspendAct)

/-- SWEEP_RESUME (R176). -/
def execSweepResume (s : State) : Answer := .next (s.take (ofKind 22#8) sweepResumeAct)

/-- SWEEP_ABORT (R177). -/
def execSweepAbort (s : State) : Answer := .next (s.take (ofKind 23#8) sweepAbortAct)

end Sys2Proof.Machine
end

