-- ==== Sys2Proof/Machine/Timers.lean ====
section
/-! DEFINITION. The lease timer: ticks, due entries, the expiry and hold-end operations, SET_TICK and SET_TIME (chapter 6). -/

namespace Sys2Proof.Machine

/-! ### Ticks (R99, R100) -/

/-- `n` periods of the reference clock at the LT: counted while tick enable is on, with a tick and a fresh count each time
the count reaches the divider (R100); a tick advances the time base by 1 unless it has stopped (R99). -/
def Timer.periods (n : Nat) (l : Timer) : Timer :=
  if l.enable then
    { l with
      timeBase := min Config.timeMax (l.timeBase + (l.dividerCount + n) / l.divider)
      dividerCount := (l.dividerCount + n) % l.divider }
  else l

/-- One period of the reference clock. It is what a step does with no command waiting (log entry 5). -/
def State.clockPeriod (s : State) : State := { s with timer := s.timer.periods 1 }

/-- TICK (R100): the periods that are still missing pass, so that the divider count reaches the tick divider, and the tick
arrives (log entry 6). With tick enable off nothing is counted and no tick arrives. -/
def execTick (s : State) : Answer :=
  .next { s with timer := s.timer.periods (s.timer.divider - s.timer.dividerCount) }

/-! ### Due entries (R106, R107) -/

/-- The head of a queue when it is due at a time (R106). -/
def dueHead (now : Nat) (q : List (Nat × Nat)) : Option (Nat × Nat) :=
  match q with
  | p :: _ => if p.1 ≤ now then some p else none
  | [] => none

/-- The due head of the expiry queue. While an operation is at the table the queue is seen as before it: an entry that it
arms is due from its end (R31, R106). -/
def State.dueExpiry (s : State) : Option (Nat × Nat) := dueHead s.timer.timeBase s.seen.expiryQ

/-- The due head of the hold queue. -/
def State.dueHold (s : State) : Option (Nat × Nat) := dueHead s.timer.timeBase s.seen.holdQ

/-- The first due entry in the combined order: the smaller time, then the lower handle (R107). -/
def State.firstDue (s : State) : Option (TimerOp × Nat) :=
  match s.dueExpiry, s.dueHold with
  | some p, some q => if p.1 < q.1 ∨ (p.1 = q.1 ∧ p.2 < q.2) then some (.expiry, p.2) else some (.holdEnd, q.2)
  | some p, none => some (.expiry, p.2)
  | none, some q => some (.holdEnd, q.2)
  | none, none => none

/-- The LT presents the first due entry, if it has nothing outstanding (R107). -/
def State.presentDue (s : State) : State :=
  if s.timer.waiting.isNone && !s.atTable .lt then
    { s with timer := { s.timer with waiting := s.firstDue } }
  else s

/-- DEADLINE_DUE (R106, R107). -/
def execDeadlineDue (s : State) : Answer :=
  .next (if s.dueExpiry.isSome then s.presentDue else s)

/-- HOLD_END_DUE (R106, R107). -/
def execHoldEndDue (s : State) : Answer :=
  .next (if s.dueHold.isSome then s.presentDue else s)

/-! ### The operations at the table (R108, R117) -/

/-- Whether a handle stands in a queue at or below a time (R108, R117). -/
def dueIn (h now : Nat) (q : List (Nat × Nat)) : Bool :=
  match queueTime h q with
  | some w => w ≤ now
  | none => false

/-- An expiry at the table (R108, R109, R110, R37). -/
def State.expiryOp (s : State) (h : Nat) : FlowTable :=
  let t := s.table
  if dueIn h s.timer.timeBase t.expiryQ then
    if t.bad h then t.damage h
    else match (t.dir h).state with
      | .active => t.close h .idle s.domains[(t.dir h).domain].autoRelease
      | .provisional => t.free h
      | .free | .held | .closing => t
  else t

/-- A hold end at the table (R117, R120, R37). -/
def State.holdEndOp (s : State) (h : Nat) : FlowTable :=
  let t := s.table
  if (t.dir h).state = .held ∧ dueIn h s.timer.timeBase t.holdQ then
    if t.bad h then t.damage h else t.release h s.timer.timeBase
  else t

/-- EXPIRY (R108). -/
def execExpiry (s : State) : Answer :=
  match s.nextGrant, s.timer.waiting with
  | some .lt, some (.expiry, h) => .next (s.grant .lt (s.expiryOp h) .timer)
  | _, _ => .next s

/-- HOLD_END (R117). -/
def execHoldEnd (s : State) : Answer :=
  match s.nextGrant, s.timer.waiting with
  | some .lt, some (.holdEnd, h) => .next (s.grant .lt (s.holdEndOp h) .timer)
  | _, _ => .next s

/-- LT_OPERATION_END (R107): the LT presents the first due entry as the queues then stand. -/
def execLtOperationEnd (s : State) : Answer :=
  .next (if s.atTable .lt then s.endOp.presentDue else s)

/-! ### SET_TICK and SET_TIME (R101, R103) -/

/-- SET_TICK on an LT (R101). -/
def setTickAct (d : Descriptor) (s : State) : State :=
  let s := { s with timer := { s.timer with
    divider := fieldAt d 4 4, enable := fieldAt d 8 1 = 1, dividerCount := 0 } }
  s.complete d .ok (.tick s.timer.divider s.timer.enable s.timer.timeBase)

/-- SET_TIME on an LT (R103). -/
def setTimeAct (d : Descriptor) (s : State) : State :=
  if fieldAt d 8 8 < s.timer.timeBase then s.complete d .backward (.time s.timer.timeBase)
  else { s with timer := { s.timer with timeBase := fieldAt d 8 8 } }.complete d .ok (.time (fieldAt d 8 8))

/-- SET_TICK (R101). -/
def execSetTick (s : State) : Answer :=
  .next (s.take (ofKind 7#8) (checked checkSetTick noResults setTickAct))

/-- SET_TIME (R103). -/
def execSetTime (s : State) : Answer :=
  .next (s.take (ofKind 8#8) (checked checkSetTime noResults setTimeAct))

end Sys2Proof.Machine
end

