-- ==== Sys2Proof/Machine/Dispatch.lean ====
section
/-! DEFINITION. The dispatch: one arm per constructor of Instr, each one call of the row's meaning. -/

namespace Sys2Proof.Machine

def exec (i : Instr) (s : State) : Host.Outcome State Fault Refusal :=
  match i with
  | .powerOnReset => Sys2Proof.Machine.execPowerOnReset s
  | .initPassEnd => Sys2Proof.Machine.execInitPassEnd s
  | .tick => Sys2Proof.Machine.execTick s
  | .deadlineDue => Sys2Proof.Machine.execDeadlineDue s
  | .holdEndDue => Sys2Proof.Machine.execHoldEndDue s
  | .lookupFrameArrival channel tag domain learnFlag length key => Sys2Proof.Machine.execLookupFrameArrival channel tag domain learnFlag length key s
  | .peekFrameArrival channel tag domain key => Sys2Proof.Machine.execPeekFrameArrival channel tag domain key s
  | .holdFrameArrival channel tag handle generation ticks => Sys2Proof.Machine.execHoldFrameArrival channel tag handle generation ticks s
  | .badFrameArrival channel frame => Sys2Proof.Machine.execBadFrameArrival channel frame s
  | .lookup => Sys2Proof.Machine.execLookup s
  | .peek => Sys2Proof.Machine.execPeek s
  | .holdRequest => Sys2Proof.Machine.execHoldRequest s
  | .expiry => Sys2Proof.Machine.execExpiry s
  | .holdEnd => Sys2Proof.Machine.execHoldEnd s
  | .sweepPosition => Sys2Proof.Machine.execSweepPosition s
  | .channelOperationEnd => Sys2Proof.Machine.execChannelOperationEnd s
  | .commandOperationEnd => Sys2Proof.Machine.execCommandOperationEnd s
  | .ltOperationEnd => Sys2Proof.Machine.execLtOperationEnd s
  | .sweepPositionEnd => Sys2Proof.Machine.execSweepPositionEnd s
  | .setSeed => Sys2Proof.Machine.execSetSeed s
  | .setSeedOperation => Sys2Proof.Machine.execSetSeedOperation s
  | .setDomain => Sys2Proof.Machine.execSetDomain s
  | .setDomainOperation => Sys2Proof.Machine.execSetDomainOperation s
  | .queryDomain => Sys2Proof.Machine.execQueryDomain s
  | .setProfile => Sys2Proof.Machine.execSetProfile s
  | .queryProfile => Sys2Proof.Machine.execQueryProfile s
  | .channelControlOpen => Sys2Proof.Machine.execChannelControlOpen s
  | .channelControlClose => Sys2Proof.Machine.execChannelControlClose s
  | .channelControlReset => Sys2Proof.Machine.execChannelControlReset s
  | .setTick => Sys2Proof.Machine.execSetTick s
  | .setTime => Sys2Proof.Machine.execSetTime s
  | .hold => Sys2Proof.Machine.execHold s
  | .holdCommandOperation => Sys2Proof.Machine.execHoldCommandOperation s
  | .fetchLearned => Sys2Proof.Machine.execFetchLearned s
  | .fetchLearnedOperation => Sys2Proof.Machine.execFetchLearnedOperation s
  | .confirm => Sys2Proof.Machine.execConfirm s
  | .confirmOperation => Sys2Proof.Machine.execConfirmOperation s
  | .reject => Sys2Proof.Machine.execReject s
  | .rejectOperation => Sys2Proof.Machine.execRejectOperation s
  | .retire => Sys2Proof.Machine.execRetire s
  | .retireOperation => Sys2Proof.Machine.execRetireOperation s
  | .fetchClosed => Sys2Proof.Machine.execFetchClosed s
  | .fetchClosedOperation => Sys2Proof.Machine.execFetchClosedOperation s
  | .insert => Sys2Proof.Machine.execInsert s
  | .insertOperation => Sys2Proof.Machine.execInsertOperation s
  | .find => Sys2Proof.Machine.execFind s
  | .findOperation => Sys2Proof.Machine.execFindOperation s
  | .query => Sys2Proof.Machine.execQuery s
  | .queryOperation => Sys2Proof.Machine.execQueryOperation s
  | .modify => Sys2Proof.Machine.execModify s
  | .modifyOperation => Sys2Proof.Machine.execModifyOperation s
  | .collect => Sys2Proof.Machine.execCollect s
  | .collectOperation => Sys2Proof.Machine.execCollectOperation s
  | .sweep => Sys2Proof.Machine.execSweep s
  | .sweepSuspend => Sys2Proof.Machine.execSweepSuspend s
  | .sweepResume => Sys2Proof.Machine.execSweepResume s
  | .sweepAbort => Sys2Proof.Machine.execSweepAbort s
  | .unknownCommand => Sys2Proof.Machine.execUnknownCommand s
  | .cmdProducerWrite value => Sys2Proof.Machine.execCmdProducerWrite value s
  | .cplConsumerWrite value => Sys2Proof.Machine.execCplConsumerWrite value s
  | .causeWrite value => Sys2Proof.Machine.execCauseWrite value s
  | .causeEnableWrite value => Sys2Proof.Machine.execCauseEnableWrite value s
  | .runEnableWrite value => Sys2Proof.Machine.execRunEnableWrite value s
  | .portReset value => Sys2Proof.Machine.execPortReset value s
  | .timeLowRead => Sys2Proof.Machine.execTimeLowRead s
  | .windowWrite offset value => Sys2Proof.Machine.execWindowWrite offset value s
  | .uncorrectableError handle => Sys2Proof.Machine.execUncorrectableError handle s

end Sys2Proof.Machine
end

