-- ==== Sys2Proof/Safety.lean ====
section
/-! DEFINITION. What a good state is, in the terms the statements use: the laws that chapters 1 to 10 say hold at all
times, and the frames of a table operation and of a command. -/

namespace Sys2Proof.Machine

/-! ### The management path (R143, R145, R148, R149) -/

/-- How many commands hold a completion reservation: the one in execution and every pending long command (R145, R148). -/
def State.holders (s : State) : Nat :=
  flagCode s.inExec.isSome + flagCode s.sweep.pendingSweep.isSome + flagCode s.sweep.pendingSuspend.isSome
    + flagCode (s.chan 0).closePending.isSome + flagCode (s.chan 1).closePending.isSome
    + flagCode (s.chan 2).closePending.isSome + flagCode (s.chan 3).closePending.isSome

/-- The law of the two queues: indexes in range, at most 16 descriptors, entries plus reservations at most 32, one reservation
for each command that has been taken and has not completed, long commands pending only where their owners wait, and no level
cause among the latched ones (R151). -/
def PortInv (s : State) : Prop :=
  s.port.cmdProducer < 32 ∧ s.port.cmdConsumer < 32 ∧ s.port.cplProducer < 64 ∧ s.port.cplConsumer < 64
  ∧ s.port.occupancy ≤ Config.commandSlots
  ∧ s.port.entries + s.port.reservations ≤ Config.completionSlots
  ∧ s.port.reservations = s.holders
  ∧ (∀ c, (s.chan c).closePending.isSome → (s.chan c).state = .draining)
  ∧ (s.sweep.pendingSweep.isSome → s.sweep.state ≠ .idle)
  ∧ (s.sweep.pendingSuspend.isSome → s.sweep.state = .suspending ∨ s.sweep.state = .aborting)
  ∧ s.port.latched &&& 7#32 = 0#32

/-! ### The channels (R28, R61, R62, R65) -/

/-- The law of one channel: out of service it holds nothing; in service its queue and waiting answers number the unanswered
count, at most 8; what it presents is the good head of its queue, with nothing of its own at the table; with nothing of its own
at the table in service, a queue that is not empty has its head presented, and a DRAINING channel has such a queue (R63, R68). -/
def ChannelInv (s : State) (c : Fin 4) : Prop :=
  let ch := s.chan c
  (ch.serving = false → ch.queue = [] ∧ ch.waitingAnswers = [] ∧ ch.unanswered = 0 ∧ ch.presented = false)
  ∧ (ch.state = .opened → ch.waitingAnswers = [])
  ∧ ch.queue.length + ch.waitingAnswers.length = ch.unanswered
  ∧ ch.unanswered ≤ Config.credits
  ∧ (ch.presented = true → s.atTable (.lc c) = false ∧ ∃ r q, ch.queue = r :: q ∧ r.bad = none)
  ∧ (ch.serving = true → s.atTable (.lc c) = false → ch.queue ≠ [] → ch.presented = true)
  ∧ (ch.state = .draining → s.atTable (.lc c) = false → ch.queue ≠ [])

/-! ### The sweep unit (R167, R169, R174 to R178) -/

/-- The law of the sweep unit: the cursor at most 2064, and below it while there is a walk; a walk has its SWEEP pending, and in
SUSPENDING its SWEEP_SUSPEND; exactly in RUNNING, SUSPENDING and ABORTING a position waits or is at the table, never two of them,
and none in SUSPENDED; what the unit has at the table is a position, and one whose result counts is of the present walk; and the
state is ABORTING exactly while a SWEEP_ABORT is in execution, with nothing of the CP's at the table (R177). -/
def SweepInv (s : State) : Prop :=
  let w := s.sweep
  w.cursor ≤ Config.walkEnd ∧ (w.state ≠ .idle → w.cursor < Config.walkEnd)
  ∧ (w.state ≠ .idle → w.pendingSweep.isSome) ∧ (w.state = .suspending → w.pendingSuspend.isSome)
  ∧ (w.presented = true → w.state.walking = true ∧ s.atTable .su = false)
  ∧ (w.state.walking = true → w.presented = true ∨ s.atTable .su = true)
  ∧ (w.state = .suspended → s.atTable .su = false)
  ∧ (∀ op, s.opAtTable = some op → op.requester = .su →
      (op.abandoned = false → w.state.walking = true) ∧ ∃ v m a, op.outcome = .position v m a)
  ∧ (w.state = .aborting → ∃ e, s.inExec = some e ∧ e.phase = .aborting)
  ∧ (∀ e, s.inExec = some e → e.phase = .aborting →
      w.state = .aborting ∧ kindOf e.desc = 23#8 ∧ s.atTable .cp = false)

/-! ### The flow table (R3, R6, R11, R40, R104, R113, R121, R134) -/

/-- The strict order of a queue: by time, and among equal times by handle (R104, R113). -/
def queueLt (p q : Nat × Nat) : Prop := p.1 < q.1 ∨ (p.1 = q.1 ∧ p.2 < q.2)

/-- A queue in order, with at most one entry for a handle (R104, R113). -/
def QueueInv (q : List (Nat × Nat)) : Prop := q.Pairwise queueLt ∧ (q.map (fun p => p.2)).Nodup

/-- The law of the flow table: each count is the number of its domain's records (R40); a close reason stands in CLOSING and
there only (R6); the closed list is the CLOSING records (R134), the learned list the unreported PROVISIONAL ones (R121);
the expiry queue is the PROVISIONAL records and the ACTIVE ones with a lease (R104), the hold queue the HELD records (R113);
and the deadline, hold end and reported fields are present exactly then (R11). -/
def FlowTable.Inv (t : FlowTable) : Prop :=
  cellsWf Slot.powerOn t.slots
  ∧ (∀ p ∈ t.slots, p.1 < Config.slots)
  ∧ (∀ d : Fin 16, t.count d = t.slots.countP (fun p => p.2.dir.state ≠ .free ∧ p.2.dir.domain = d))
  ∧ (∀ h, (t.dir h).closeReason.isSome ↔ (t.dir h).state = .closing)
  ∧ t.closed.Nodup ∧ (∀ h, h ∈ t.closed ↔ (t.dir h).state = .closing)
  ∧ t.learned.Nodup
  ∧ (∀ h, h ∈ t.learned ↔ (t.dir h).state = .provisional ∧ (t.body h).reported = some false)
  ∧ (∀ h, (t.dir h).state ≠ .free → ((t.body h).reported.isSome ↔ (t.dir h).state = .provisional))
  ∧ QueueInv t.expiryQ ∧ QueueInv t.holdQ
  ∧ (∀ h, (queueTime h t.expiryQ).isSome ↔
      (t.dir h).state = .provisional ∨ ((t.dir h).state = .active ∧ (t.body h).leaseInterval > 0))
  ∧ (∀ h, (queueTime h t.holdQ).isSome ↔ (t.dir h).state = .held)
  ∧ (∀ h, (t.dir h).state ≠ .free →
      (t.body h).deadline = queueTime h t.expiryQ ∧ (t.body h).holdEnd = queueTime h t.holdQ)

/-- The bucket law: a matchable record in a bucket slot lies in the bucket its hash gives (R18). -/
def FlowTable.BucketLaw (t : FlowTable) (seed : BitVec 11) : Prop :=
  ∀ h, h < Config.spillBase → (t.dir h).matchable = true →
    (bucket seed (t.dir h).domain (t.body h).key).toNat = h / 4

/-- The key law: no two matchable records have the same domain and the same masked key (R24). -/
def FlowTable.KeyLaw (t : FlowTable) : Prop :=
  ∀ h h', (t.dir h).matchable = true → (t.dir h').matchable = true → (t.dir h).domain = (t.dir h').domain →
    (t.body h).key = (t.body h').key → h = h'

/-- Every record lies in a slot of the part (section 1.1). -/
def FlowTable.InTable (t : FlowTable) : Prop := ∀ p ∈ t.slots, p.1 < Config.slots

/-- No domain holds more records than its quota (R40, R44). -/
def QuotaLaw (s : State) : Prop := ∀ d : Fin 16, s.table.count d ≤ s.domains[d].quota

/-! ### Ranges (sections 1.4, 3.1, 3.4, 6.1) -/

/-- The settings in their ranges: profiles (profile 0 fixed), domain entries, the tick divider and its count. -/
def SettingsInv (s : State) : Prop :=
  s.profiles[0] = { rate := 0, burst := 0 }
  ∧ (∀ p : Fin 64, s.profiles[p].rate ≤ 1048575 ∧ s.profiles[p].burst ≤ 16777215)
  ∧ (∀ d : Fin 16, s.domains[d].learnLease ≤ 65535 ∧ 1 ≤ s.domains[d].timeout ∧ s.domains[d].timeout ≤ 65535
      ∧ s.domains[d].quota ≤ Config.slots)
  ∧ 1 ≤ s.timer.divider ∧ s.timer.divider ≤ 65536 ∧ s.timer.dividerCount < s.timer.divider
  ∧ s.timer.timeBase ≤ Config.timeMax

/-- The argument check of a command that is carried out as a table operation, by its kind code (R146, R147). -/
def checkFor (d : Descriptor) : Bool :=
  match (kindOf d).toNat with
  | 1 => checkSetSeed d
  | 2 => checkSetDomain d
  | 9 => checkHold d
  | 11 => checkConfirm d
  | 12 | 13 | 17 | 19 => checkReference d
  | 15 => checkInsert d
  | 16 => checkDomain d
  | 18 => checkModify d
  | _ => true

/-- A command whose table operation waits has passed its argument checks (R146). -/
def ExecInv (s : State) : Prop := ∀ e, s.inExec = some e → e.phase = .waiting → checkFor e.desc = true

/-- The fields of a body in the ranges of section 1.4. -/
def Body.InRange (b : Body) : Prop :=
  b.leaseInterval ≤ 65535 ∧ b.tokens ≤ 16777215 ∧ b.meterTime ≤ Config.timeMax ∧ b.created ≤ Config.timeMax
  ∧ b.packets ≤ Config.packetsMax ∧ b.bytes ≤ Config.bytesMax ∧ b.exceeds ≤ Config.exceedsMax
  ∧ (∀ w, b.deadline = some w → w ≤ Config.timeMax) ∧ (∀ w, b.holdEnd = some w → w ≤ Config.timeMax)

/-- Every body of the record store is in its ranges. -/
def BodiesInv (s : State) : Prop := ∀ h, (s.table.body h).InRange

/-! ### Power-on values (R3, R21, R29, R39, R48, R66, R76, R99, R100, R141, R167) -/

/-- Every value that the spec states for power-on reset. The records the model keeps of its own (the lanes, the last read
data, the counter of free values, the waiting commands) are not spoken of. -/
def PowerOnValues (t : State) : Prop :=
  t.port.ready = false ∧ t.port.run = false ∧ t.port.cmdProducer = 0 ∧ t.port.cmdConsumer = 0
  ∧ t.port.cplProducer = 0 ∧ t.port.cplConsumer = 0 ∧ t.port.reservations = 0
  ∧ (∀ o, loadByte t.port.window o = 0#8) ∧ t.port.latched = 0#32 ∧ t.port.enables = 0#32 ∧ t.port.snapshot = 0#16
  ∧ t.inExec = none ∧ t.seed = 0#11
  ∧ (∀ d : Fin 16, t.domains[d].enabled = false ∧ t.domains[d].mask = BitVec.allOnes 128
      ∧ t.domains[d].learnMode = .off ∧ t.domains[d].learnClass = 0#8 ∧ t.domains[d].learnProfile = 0
      ∧ t.domains[d].learnLease = 0 ∧ t.domains[d].timeout = 1000 ∧ t.domains[d].autoRelease = false
      ∧ t.domains[d].quota = 8256 ∧ t.table.count d = 0)
  ∧ (∀ p : Fin 64, t.profiles[p].rate = 0 ∧ t.profiles[p].burst = 0)
  ∧ (∀ c, (t.chan c).state = .disabled ∧ (t.chan c).queue = [] ∧ (t.chan c).unanswered = 0
      ∧ (t.chan c).waitingAnswers = [] ∧ (t.chan c).faultReason = .none ∧ (t.chan c).closePending = none
      ∧ (t.chan c).presented = false)
  ∧ (∀ h, (t.table.dir h).state = .free ∧ (t.table.dir h).domain = 0 ∧ (t.table.dir h).generation = 0#8
      ∧ (t.table.dir h).closeReason = none ∧ t.table.body h = Body.zero ∧ t.table.bad h = false)
  ∧ t.table.learned = [] ∧ t.table.closed = [] ∧ t.table.expiryQ = [] ∧ t.table.holdQ = []
  ∧ t.lastGranted = .lt ∧ t.opAtTable = none
  ∧ t.timer.timeBase = 0 ∧ t.timer.divider = 1000 ∧ t.timer.enable = false ∧ t.timer.dividerCount = 0
  ∧ t.timer.waiting = none
  ∧ t.sweep.state = .idle ∧ t.sweep.cursor = 0 ∧ t.sweep.visited = 0 ∧ t.sweep.matched = 0 ∧ t.sweep.acted = 0
  ∧ t.sweep.params.selector = none ∧ t.sweep.params.classValue = 0#8 ∧ t.sweep.params.classMask = 0#8
  ∧ t.sweep.params.onProvisional = false ∧ t.sweep.params.onActive = false ∧ t.sweep.params.onHeld = false
  ∧ t.sweep.params.action = .count
  ∧ t.sweep.pendingSweep = none ∧ t.sweep.pendingSuspend = none ∧ t.sweep.presented = false

/-! ### Takes (R145) -/

/-- The five conditions under which the CP takes the command at CMD_CONSUMER (R145). -/
def CanTakeNow (s : State) : Prop :=
  s.port.ready = true ∧ s.port.run = true ∧ s.inExec = none ∧ (∀ op, s.opAtTable = some op → op.requester ≠ .cp)
  ∧ 0 < s.port.occupancy ∧ s.port.entries + s.port.reservations < 32

/-- The state after a take: CMD_CONSUMER has advanced by 1, mod 32, one more completion slot is reserved, and what is in
execution is `e` (R145). -/
def State.afterTake (s : State) (e : Option Execution) : State :=
  { s with
    port := { s.port with cmdConsumer := (s.port.cmdConsumer + 1) % 32, reservations := s.port.reservations + 1 }
    inExec := e }

/-- The state after a take whose command completed at once with a status and results (R147): its completion posted, its
reservation consumed, nothing in execution. -/
def State.takenAndPosted (s : State) (st : Status) (r : Results) : State :=
  (s.afterTake none).post (tagOf s.nextDescriptor) (kindOf s.nextDescriptor) st r

/-- The take rows of the commands that are carried out as a table operation, with their kind codes (R147, R181). -/
def tableCommands : List (Instr × Byte) :=
  [(.setSeed, 1), (.setDomain, 2), (.hold, 9), (.fetchLearned, 10), (.confirm, 11), (.reject, 12), (.retire, 13),
   (.fetchClosed, 14), (.insert, 15), (.find, 16), (.query, 17), (.modify, 18), (.collect, 19)]

/-- The take rows of the commands that act on another block, with their kind codes (R147, R181). -/
def actionCommands : List (Instr × Byte) :=
  [(.queryDomain, 3), (.setProfile, 4), (.queryProfile, 5), (.channelControlOpen, 6), (.channelControlClose, 6),
   (.channelControlReset, 6), (.setTick, 7), (.setTime, 8), (.sweep, 20), (.sweepSuspend, 21), (.sweepResume, 22),
   (.sweepAbort, 23)]

/-! ### The arbiter (R29) -/

/-- How many requesters stand in the ring between a requester and another one behind it: 0 for the next, 6 for itself. -/
def Requester.behind (last r : Requester) : Nat := (r.place + 6 - last.place) % 7

/-! ### Table operations (R31) -/

/-- Every slot but one reads as before. -/
def FlowTable.OthersKept (t u : FlowTable) (h : Nat) : Prop := ∀ k, k ≠ h → u.slot k = t.slot k

/-- The lists, the queues and the counts are as before. -/
def FlowTable.ListsKept (t u : FlowTable) : Prop :=
  u.counts = t.counts ∧ u.learned = t.learned ∧ u.closed = t.closed ∧ u.expiryQ = t.expiryQ ∧ u.holdQ = t.holdQ

/-! ### Operations of commands at their grant (R29, R147) -/

/-- The table operation of the command in execution, of a kind, is the next to be granted (R29, R147). -/
abbrev State.AtGrant (s : State) (kind : Byte) (d : Descriptor) : Prop :=
  s.nextGrant = some .cp ∧ s.inExec = some { desc := d, phase := .waiting } ∧ kindOf d = kind

/-- A handle and generation name the record that the slot now holds (R7). -/
abbrev FlowTable.Current (t : FlowTable) (h : Nat) (generation : Byte) : Prop :=
  (t.dir h).state ≠ .free ∧ (t.dir h).generation = generation

/-- The operation rows of the commands that name a record by reference and test its state, with their kind codes and the
states they admit (R115, R126, R128, R131, R162, R164). -/
def referenceCommands : List (Instr × Byte × List RecState) :=
  [(.holdCommandOperation, 9, [.active, .held]), (.confirmOperation, 11, [.provisional]),
   (.rejectOperation, 12, [.provisional]), (.retireOperation, 13, [.active, .held]),
   (.modifyOperation, 18, [.active, .held]), (.collectOperation, 19, [.provisional, .active, .held])]

/-- The timer field that a body's deadline or hold end gives, with its presence (R182). -/
def Body.timerGiven (b : Body) : TimerField :=
  match b.deadline, b.holdEnd with
  | some w, _ => .deadline w
  | none, some w => .holdEnd w
  | none, none => .none

/-- The close reason as the timer field carries it, or nothing (R182). -/
def DirEntry.reasonGiven (e : DirEntry) : TimerField :=
  match e.closeReason with
  | some r => .closeReason r
  | none => .none

/-- A whole image of a record, from its directory entry and body (R17, R182). -/
def Slot.wholeImage (x : Slot) (h : Nat) : RecordFields where
  handle := h
  generation := x.dir.generation
  state := x.dir.state
  timer := if x.dir.closeReason.isSome then x.dir.reasonGiven else x.body.timerGiven
  origin := x.body.origin.code
  domain := x.dir.domain.val
  profile := x.body.profile.val
  cls := x.body.cls
  leaseInterval := x.body.leaseInterval
  tokens := x.body.tokens
  key := x.body.key
  meterTime := x.body.meterTime
  created := x.body.created
  packets := x.body.packets
  bytes := x.body.bytes
  exceeds := x.body.exceeds
  reliable := true
  pinned := x.body.pinned
  reported := decide (x.body.reported = some true)

/-- The settings that hold at all times together: quotas, ranges, checked arguments, and the canonical form of the model's
sparse stores. -/
def BoundsInv (s : State) : Prop := QuotaLaw s ∧ SettingsInv s ∧ ExecInv s ∧ BodiesInv s ∧ Memory.wf s

end Sys2Proof.Machine
end

