-- ==== Sys2Proof/WellFormed.lean ====
section
/-! DEFINITION. The commands that stand for an event the part can meet: the operands of a row are what the row's
event says they are. -/

namespace Sys2Proof

/-- The window words that are written by rows of their own: CONTROL, CAUSE, CAUSE_ENABLE, CMD_PRODUCER and
CPL_CONSUMER (R139). -/
def isControlWord (offset : BitVec 12) : Bool :=
  let o := offset.toNat / 4 * 4
  o == 0x008 || o == 0x00C || o == 0x010 || o == 0x014 || o == 0x020

/-- A bad frame fails a test of R57; an uncorrectable error strikes a body that exists; a PORT_RESET is a CONTROL
write with bit 1 set and a RUN_ENABLE_WRITE one with it clear (R142, R153); a WINDOW_WRITE is not a write of a
word that has a row of its own. -/
def Instr.wellFormed : Instr → Bool
  | .badFrameArrival _ f => match classifyFrame f with
    | .error _ => true
    | .ok _ => false
  | .uncorrectableError h => decide (h < Config.slots)
  | .runEnableWrite v => !v.getLsbD 1
  | .portReset v => v.getLsbD 1
  | .windowWrite o _ => !isControlWord o
  | .powerOnReset | .initPassEnd | .tick | .deadlineDue | .holdEndDue | .lookupFrameArrival _ _ _ _ _ _
  | .peekFrameArrival _ _ _ _ | .holdFrameArrival _ _ _ _ _ | .lookup | .peek | .holdRequest | .expiry | .holdEnd
  | .sweepPosition | .channelOperationEnd | .commandOperationEnd | .ltOperationEnd | .sweepPositionEnd | .setSeed
  | .setSeedOperation | .setDomain | .setDomainOperation | .queryDomain | .setProfile | .queryProfile
  | .channelControlOpen | .channelControlClose | .channelControlReset | .setTick | .setTime | .hold
  | .holdCommandOperation | .fetchLearned | .fetchLearnedOperation | .confirm | .confirmOperation | .reject
  | .rejectOperation | .retire | .retireOperation | .fetchClosed | .fetchClosedOperation | .insert
  | .insertOperation | .find | .findOperation | .query | .queryOperation | .modify | .modifyOperation | .collect
  | .collectOperation | .sweep | .sweepSuspend | .sweepResume | .sweepAbort | .unknownCommand
  | .cmdProducerWrite _ | .cplConsumerWrite _ | .causeWrite _ | .causeEnableWrite _ | .timeLowRead => true

end Sys2Proof
end

