-- ==== Sys2Proof/Certificates/Slice0/Obligations.lean ====
section
/-! DEFINITION. The statements for the provers: what the commands of the part do, what every step keeps, and what the
outside reads, from the numbered rules of spec/. -/

open Sys2Proof Sys2Proof.Machine

/-! ### The step, reset and time -/

/-- Step runs the command at the front of the queue, with the queue's rest (the row's cut). -/
def Obligations.StepRunsFrontCommand : Prop :=
  ∀ (c : Instr) (rest : List Instr) (s : State),
    step { s with pending := c :: rest } = exec c { s with pending := rest }

/-- Power-on reset leaves every block at its power-on values, the lanes as they were, and the state the model starts from
holds the same values; in INIT the end of the initialisation pass leaves every slot FREE at its power-on values, the port READY
and the READY cause latched, and changes nothing else (R141, R3, R21, R29, R39, R48, R76, R99, R100, R167). That the lanes are
kept, and that the flow table has its power-on values from the reset on, a FREE slot's origin of code 0 (LC0) among them, is the model's
reading (log entries 10, 14). -/
def Obligations.PowerOnResetAndInitPass : Prop :=
  PowerOnValues State.reset
  ∧ (∀ s : State, ∃ t, exec .powerOnReset s = .next t ∧ PowerOnValues t ∧ t.pending = s.pending
    ∧ ∀ c, (t.chan c).lane = (s.chan c).lane)
  ∧ (∀ s : State, s.port.ready = false →
    ∃ t, exec .initPassEnd s = .next t
      ∧ t = { s with
          table := t.table
          port := { s.port with ready := true, latched := s.port.latched ||| 0x8#32 } }
      ∧ (∀ h, t.table.slot h = Slot.powerOn) ∧ (∀ d, t.table.count d = 0)
      ∧ t.table.learned = [] ∧ t.table.closed = [] ∧ t.table.expiryQ = [] ∧ t.table.holdQ = [])

/-- While tick enable is on the divider count counts reference-clock periods, and a tick arrives each time it reaches the tick
divider N: in n periods, as many ticks as N is contained in the count and n together (R100). A tick advances the time base by 1
unless it stands at 2^48-1, and the count starts again from 0; with the enable off nothing is counted and no tick arrives (R99,
R100). That a step with no command waiting is one period, and that TICK stands for the periods still missing to N with the tick
at their end, is the model's choice (log entries 2, 5, 6). -/
def Obligations.TicksAdvanceTheTimeBase : Prop :=
  ∀ s : State, s.timer.timeBase ≤ 281474976710655 → s.timer.dividerCount < s.timer.divider →
    (s.timer.enable = true → s.timer.timeBase < 281474976710655 →
      exec .tick s = .next { s with timer := { s.timer with timeBase := s.timer.timeBase + 1, dividerCount := 0 } })
    ∧ (s.timer.enable = true → s.timer.timeBase = 281474976710655 →
      exec .tick s = .next { s with timer := { s.timer with dividerCount := 0 } })
    ∧ (s.timer.enable = false → exec .tick s = .next s)
    ∧ (s.pending = [] → s.timer.enable = false → step s = .next s)
    ∧ (s.pending = [] → s.timer.enable = true → s.timer.dividerCount + 1 < s.timer.divider →
        step s = .next { s with timer := { s.timer with dividerCount := s.timer.dividerCount + 1 } })
    ∧ (s.pending = [] → s.timer.enable = true → s.timer.dividerCount + 1 = s.timer.divider → step s = exec .tick s)
    ∧ (s.pending = [] → step s = .next s.clockPeriod)
    ∧ (s.timer.enable = true → ∀ n, Nat.iterate State.clockPeriod n s = { s with timer := { s.timer with
        timeBase := min 281474976710655 (s.timer.timeBase + (s.timer.dividerCount + n) / s.timer.divider)
        dividerCount := (s.timer.dividerCount + n) % s.timer.divider } })
    ∧ exec .tick s = .next (Nat.iterate State.clockPeriod (s.timer.divider - s.timer.dividerCount) s)

/-! ### What every step keeps -/

/-- Every law of the model holds in the state the model starts from. -/
def Obligations.EveryLawHoldsAtReset : Prop :=
  PortInv State.reset ∧ SweepInv State.reset ∧ (∀ c, ChannelInv State.reset c) ∧ State.reset.table.Inv
  ∧ State.reset.table.BucketLaw State.reset.seed ∧ State.reset.table.KeyLaw ∧ BoundsInv State.reset

/-- Every step keeps the law of the management path: indexes in range, at most 16 descriptors, entries plus reservations at
most 32, one reservation for each command taken and not completed, no level cause latched (R143, R145, R148, R149, R151); and the
law of the sweep unit: its cursor, what it has presented or at the table, and what is pending in each sweep state, ABORTING only
while a SWEEP_ABORT is in execution (R167, R169, R174, R175, R176, R177, R178). -/
def Obligations.EveryStepKeepsTheManagementPath : Prop :=
  ∀ s t : State, step s = .next t → (PortInv s → PortInv t) ∧ (SweepInv s → SweepInv t)

/-- Every step keeps the law of the channels: the unanswered count is the queue and the waiting answers, at most 8; what a
channel out of service holds; what it presents to the arbiter, and that in service with nothing at the table it presents the
head of its queue (R28, R61, R62, R63, R65, R68). -/
def Obligations.EveryStepKeepsTheChannelLaw : Prop :=
  ∀ s t : State, (∀ c, ChannelInv s c) → step s = .next t → ∀ c, ChannelInv t c

/-- Every step keeps the law of the flow table: the counts, the two lists, the two queues and the optional fields agree with
the record states, and the queues are in order (R6, R11, R40, R104, R113, R121, R134). -/
def Obligations.EveryStepKeepsTheTableLaw : Prop :=
  ∀ s t : State, s.table.Inv → step s = .next t → t.table.Inv

/-- Every step keeps the bucket law and the key law; the seed changes only with every slot FREE, and a domain's mask only while
the domain holds no record (R18, R24). -/
def Obligations.EveryStepKeepsBucketAndKeyLaws : Prop :=
  ∀ s t : State, s.table.Inv → s.table.BucketLaw s.seed → s.table.KeyLaw → step s = .next t →
    t.table.BucketLaw t.seed ∧ t.table.KeyLaw
    ∧ (t.seed ≠ s.seed → ∀ h, (t.table.dir h).state = .free)
    ∧ (∀ d : Fin 16, t.domains[d].mask ≠ s.domains[d].mask → t.table.count d = 0)

/-- Every step keeps each count within its quota (R40, R44, R46), the settings, the time base and every body field in its range
(sections 1.4, 3.1, 3.4, 6.1), the arguments of a waiting command checked (R146), and the model's sparse stores canonical. -/
def Obligations.EveryStepKeepsTheBounds : Prop :=
  ∀ s t : State, BoundsInv s → step s = .next t → BoundsInv t

/-- The generation of a slot rises by 1, modulo 256, when the slot enters FREE, and at no other moment; a record created takes
it as it stands, and it is 0 from power-on; a record keeps its domain, key, origin and created time (R5, R4, R9). Of every
command but power-on reset and the end of its pass. -/
def Obligations.GenerationRisesOnlyOnEnteringFree : Prop :=
  (∀ h, (State.reset.table.dir h).generation = 0#8)
  ∧ ∀ (c : Instr) (s t : State) (h : Nat), s.table.Inv → c ≠ .powerOnReset → c ≠ .initPassEnd → exec c s = .next t →
    ((s.table.dir h).state ≠ .free → (t.table.dir h).state = .free →
      (t.table.dir h).generation.toNat = ((s.table.dir h).generation.toNat + 1) % 256)
    ∧ ((s.table.dir h).state = .free ∨ (t.table.dir h).state ≠ .free →
      (t.table.dir h).generation = (s.table.dir h).generation)
    ∧ ((s.table.dir h).state ≠ .free → (t.table.dir h).state ≠ .free →
      (t.table.dir h).domain = (s.table.dir h).domain ∧ (t.table.body h).key = (s.table.body h).key
      ∧ (t.table.body h).origin = (s.table.body h).origin ∧ (t.table.body h).created = (s.table.body h).created)

/-- The time base never decreases, except at power-on reset, and never passes 2^48-1; it changes only at a tick, at a step with
no command waiting, at SET_TIME and at power-on reset (R99). -/
def Obligations.TimeBaseNeverDecreases : Prop :=
  (∀ (s t : State), s.timer.timeBase ≤ 281474976710655 → s.pending.head? ≠ some .powerOnReset → step s = .next t →
    s.timer.timeBase ≤ t.timer.timeBase ∧ t.timer.timeBase ≤ 281474976710655)
  ∧ (∀ (c : Instr) (s t : State), c ≠ .powerOnReset → c ≠ .tick → c ≠ .setTime → exec c s = .next t →
    t.timer.timeBase = s.timer.timeBase)

/-- A frame produced is not withdrawn: every command leaves the lanes as they were, with frames behind (R59). That a lane is the
record of every frame produced, and that power-on reset too keeps it, is the model's choice (log entry 10). A frame that arrives
on one channel changes no other channel (chapter 4, opening). -/
def Obligations.LanesOnlyGrow : Prop :=
  (∀ (c : Instr) (s t : State), exec c s = .next t →
    ∀ ch, ∃ fs, (t.chan ch).lane = (s.chan ch).lane ++ fs)
  ∧ (∀ (s t : State) (ch c' : Fin 4) (tag domain learnFlag generation : Byte) (length handle ticks : BitVec 16)
      (key : Key) (frame : List Byte), c' ≠ ch →
      exec (.lookupFrameArrival ch tag domain learnFlag length key) s = .next t
        ∨ exec (.peekFrameArrival ch tag domain key) s = .next t
        ∨ exec (.holdFrameArrival ch tag handle generation ticks) s = .next t
        ∨ exec (.badFrameArrival ch frame) s = .next t →
      t.chan c' = s.chan c')

/-- While an operation is at the table the outside sees the table as it stood before it: a step after which an operation is
at the table has changed neither what the outside sees of the table nor the LEARNED and CLOSED causes (R31). That the rows are steps of
this shape is the model's reading (log entry 1). -/
def Obligations.OutsideSeesTheTableBetweenOperations : Prop :=
  ∀ (c : Instr) (s t : State), exec c s = .next t → t.opAtTable.isSome →
    t.seen = s.seen ∧ t.levelCauses.getLsbD 1 = s.levelCauses.getLsbD 1
      ∧ t.levelCauses.getLsbD 2 = s.levelCauses.getLsbD 2

/-! ### The arbiter (section 2.6) -/

/-- The arbiter grants the first waiting requester that follows the last-granted one in the ring, and only while the table is
free; that requester becomes the last granted; nothing but a grant or a power-on reset moves the ring (R29). -/
def Obligations.ArbiterGrantsTheNextInTheRing : Prop :=
  (∀ (s : State) (r : Requester), s.nextGrant = some r ↔
      s.opAtTable = none ∧ s.waits r = true
      ∧ ∀ q, s.waits q = true → Requester.behind s.lastGranted r ≤ Requester.behind s.lastGranted q)
  ∧ (∀ (s : State), s.nextGrant = none ↔ s.opAtTable.isSome ∨ ∀ q, s.waits q = false)
  ∧ (∀ (c : Instr) (s t : State), c ≠ .powerOnReset → exec c s = .next t → t.lastGranted ≠ s.lastGranted →
      s.nextGrant = some t.lastGranted ∧ t.atTable t.lastGranted = true)
  ∧ State.reset.lastGranted = .lt

/-- What a grant does besides the operation's own work: the requester's request no longer waits, it is the last granted, and
its operation is at the table, with the table before it kept for the outside and its result for its end (R28, R29, R31). -/
def Obligations.GrantTakesTheTable : Prop :=
  ∀ (s : State) (r : Requester) (u : FlowTable) (o : OpOutcome),
    let t := s.grant r u o
    t.table = u ∧ t.lastGranted = r ∧ t.waits r = false
    ∧ t.opAtTable = some { requester := r, before := s.table, abandoned := false, outcome := o }
    ∧ (∀ q, q ≠ r → t.waits q = s.waits q)
    ∧ t.port = s.port ∧ t.seed = s.seed ∧ t.domains = s.domains ∧ t.profiles = s.profiles ∧ t.freeCount = s.freeCount
    ∧ t.pending = s.pending
    ∧ (∀ c, t.chan c = { s.chan c with presented := (s.chan c).presented && !(r == .lc c) })
    ∧ t.inExec = (if r = .cp then s.inExec.map (fun e => { e with phase := .atTable }) else s.inExec)
    ∧ t.timer = { s.timer with waiting := if r = .lt then none else s.timer.waiting }
    ∧ t.sweep = { s.sweep with presented := s.sweep.presented && !(r == .su) }

/-! ### Hash, search and placement (sections 2.3 to 2.5) -/

/-- The bucket of a domain and masked key: the fold of the key's eight words, split at 2048, with the domain's term and the
seed; and the slots of a bucket's search in order, four ways and then the 64 spill entries (R20, R23). -/
def Obligations.BucketIsTheHashOfDomainAndKey : Prop :=
  ∀ (seed : BitVec 11) (d : Fin 16) (k : Key),
    let w : Nat → Nat := fun i => k.toNat / 2 ^ (112 - 16 * i) % 2 ^ 16
    let f := w 0 ^^^ w 1 ^^^ w 2 ^^^ w 3 ^^^ w 4 ^^^ w 5 ^^^ w 6 ^^^ w 7
    let b := (f % 2048) ^^^ (f / 2048) ^^^ (d.val * 128) ^^^ seed.toNat
    (bucket seed d k).toNat = b ∧ b < 2048
    ∧ candidates (bucket seed d k) =
        [b * 4, b * 4 + 1, b * 4 + 2, b * 4 + 3] ++ (List.range 64).map (fun e => 8192 + e)

/-- A search ends on the first candidate that is matchable, of the domain, sound and of the key; the candidates before it that
are matchable, of the domain and hold an error are damaged, in their order, and nothing else changes (R23, R35). -/
def Obligations.SearchFindsTheFirstMatch : Prop :=
  ∀ (t : FlowTable) (seed : BitVec 11) (d : Fin 16) (k : Key),
    let cs := candidates (bucket seed d k)
    let reads : Nat → Bool := fun h => (t.dir h).matchable && decide ((t.dir h).domain = d)
    let hit : Nat → Bool := fun h => reads h && !t.bad h && decide ((t.body h).key = k)
    (t.search seed d k).2 = cs.find? hit
    ∧ (t.search seed d k).1 =
        ((cs.takeWhile (fun h => !hit h)).filter (fun h => reads h && t.bad h)).foldl FlowTable.damage t

/-- Placement chooses the lowest-numbered FREE way of the bucket; when no way is FREE, the lowest-numbered FREE spill entry;
and none when no spill entry is FREE either (R25). -/
def Obligations.PlacementChoosesTheLowestFree : Prop :=
  ∀ (t : FlowTable) (b : BitVec 11),
    let free : Nat → Prop := fun h => (t.dir h).state = .free
    (∀ i, i < 4 → free (b.toNat * 4 + i) → (∀ j, j < i → ¬ free (b.toNat * 4 + j)) →
      t.placement b = some (b.toNat * 4 + i))
    ∧ (∀ e, e < 64 → (∀ j, j < 4 → ¬ free (b.toNat * 4 + j)) → free (8192 + e) → (∀ j, j < e → ¬ free (8192 + j)) →
      t.placement b = some (8192 + e))
    ∧ ((∀ j, j < 4 → ¬ free (b.toNat * 4 + j)) → (∀ j, j < 64 → ¬ free (8192 + j)) → t.placement b = none)

/-! ### What the shared operations do to a record -/

/-- Damage: the record becomes CLOSING with reason DAMAGED, leaves both queues and the learned list, and joins the tail of the
closed list unless it was CLOSING already; its count stays, and every other slot. The storage event that puts an error into a
body changes nothing that a read of the directory, the lists or the queues can show (R33, R34, R6). Freeing: state FREE, the next generation, no close reason, the domain kept; the count of the domain falls by 1; the handle
leaves both queues and both lists; no body and no other slot is touched (R15). Closing with reason RETIRED, IDLE or SWEPT:
CLOSING with the reason, out of both queues, at the tail of the closed list, every other body field and the count kept; under
auto-release the slot is freed instead (R130, R43). -/
def Obligations.DamageFreeingAndClosing : Prop :=
  (∀ (t : FlowTable) (h : Nat),
    let u := t.damage h
    u.dir h = { t.dir h with state := .closing, closeReason := some .damaged }
    ∧ u.body h = { t.body h with deadline := none, holdEnd := none, reported := none } ∧ u.bad h = t.bad h
    ∧ FlowTable.OthersKept t u h ∧ u.counts = t.counts
    ∧ u.learned = t.learned.filter (· ≠ h) ∧ u.closed = (if (t.dir h).state = .closing then t.closed else t.closed ++ [h])
    ∧ (∀ p, p ∈ u.expiryQ ↔ p ∈ t.expiryQ ∧ p.2 ≠ h) ∧ (∀ p, p ∈ u.holdQ ↔ p ∈ t.holdQ ∧ p.2 ≠ h))
  ∧ (∀ (s : State) (h : Nat), h < 8256 →
    ∃ u, exec (.uncorrectableError h) s = .next { s with table := u } ∧ u.bad h = true ∧ u.dir h = s.table.dir h
      ∧ u.body h = s.table.body h ∧ FlowTable.OthersKept s.table u h ∧ FlowTable.ListsKept s.table u)
  ∧ (∀ (t : FlowTable) (h : Nat),
    let u := t.free h
    u.dir h = { t.dir h with state := .free, generation := (t.dir h).generation + 1#8, closeReason := none }
    ∧ u.body h = t.body h ∧ u.bad h = t.bad h ∧ FlowTable.OthersKept t u h
    ∧ (∀ d, u.count d = if d = (t.dir h).domain then t.count d - 1 else t.count d)
    ∧ u.learned = t.learned.filter (· ≠ h) ∧ u.closed = t.closed.filter (· ≠ h)
    ∧ (∀ p, p ∈ u.expiryQ ↔ p ∈ t.expiryQ ∧ p.2 ≠ h) ∧ (∀ p, p ∈ u.holdQ ↔ p ∈ t.holdQ ∧ p.2 ≠ h))
  ∧ (∀ (t : FlowTable) (h : Nat) (r : CloseReason),
    t.close h r true = t.free h ∧
    let u := t.close h r false
    u.dir h = { t.dir h with state := .closing, closeReason := some r }
    ∧ u.body h = { t.body h with deadline := none, holdEnd := none } ∧ u.bad h = t.bad h
    ∧ FlowTable.OthersKept t u h ∧ u.counts = t.counts ∧ u.learned = t.learned ∧ u.closed = t.closed ++ [h]
    ∧ (∀ p, p ∈ u.expiryQ ↔ p ∈ t.expiryQ ∧ p.2 ≠ h) ∧ (∀ p, p ∈ u.holdQ ↔ p ∈ t.holdQ ∧ p.2 ≠ h))

/-- Creation in a slot: directory entry and whole body written with a sound code, the generation kept, the domain's count up
by 1; in the expiry queue under its deadline if it has one, at the tail of the learned list if PROVISIONAL (R13, R8). -/
def Obligations.CreationWritesTheWholeRecord : Prop :=
  ∀ (t : FlowTable) (h : Nat) (x : RecState) (d : Fin 16) (b : Body),
    let u := t.create h x d b
    u.dir h = { state := x, domain := d, generation := (t.dir h).generation, closeReason := none }
    ∧ u.body h = b ∧ u.bad h = false ∧ FlowTable.OthersKept t u h
    ∧ (∀ e, u.count e = if e = d then t.count e + 1 else t.count e)
    ∧ u.closed = t.closed ∧ u.holdQ = t.holdQ
    ∧ u.learned = (if x = .provisional then t.learned ++ [h] else t.learned)
    ∧ (b.deadline = none → u.expiryQ = t.expiryQ)
    ∧ (∀ w, b.deadline = some w → ∀ k, queueTime k u.expiryQ = if k = h then some w else queueTime k t.expiryQ)

/-- The hold rule: above 0 ticks the record is HELD, out of the expiry queue, with the hold end now plus the ticks, stored as
2^48-1 when the sum is larger; 0 ticks release a HELD record, with a fresh deadline from its stored lease interval when that is
above 0, and change nothing on an ACTIVE one (R114, R120, R11). -/
def Obligations.HoldRuleHoldsReplacesAndReleases : Prop :=
  ∀ (t : FlowTable) (h now ticks : Nat), (t.dir h).state = .active ∨ (t.dir h).state = .held →
    let u := t.holdRule h now ticks
    let b := t.body h
    (0 < ticks →
      u.dir h = { t.dir h with state := .held }
      ∧ u.body h = { b with deadline := none, holdEnd := some (min 281474976710655 (now + ticks)) }
      ∧ (∀ p, p ∈ u.expiryQ ↔ p ∈ t.expiryQ ∧ p.2 ≠ h)
      ∧ (∀ k, queueTime k u.holdQ = if k = h then some (min 281474976710655 (now + ticks)) else queueTime k t.holdQ))
    ∧ (ticks = 0 → (t.dir h).state = .active → u = t)
    ∧ (ticks = 0 → (t.dir h).state = .held →
      u.dir h = { t.dir h with state := .active }
      ∧ (∀ p, p ∈ u.holdQ ↔ p ∈ t.holdQ ∧ p.2 ≠ h)
      ∧ (b.leaseInterval = 0 → u.body h = { b with holdEnd := none } ∧ u.expiryQ = t.expiryQ)
      ∧ (0 < b.leaseInterval →
          u.body h = { b with holdEnd := none, deadline := some (min 281474976710655 (now + b.leaseInterval)) }
          ∧ ∀ k, queueTime k u.expiryQ =
              if k = h then some (min 281474976710655 (now + b.leaseInterval)) else queueTime k t.expiryQ))
    ∧ u.bad h = t.bad h ∧ FlowTable.OthersKept t u h ∧ u.counts = t.counts ∧ u.learned = t.learned
    ∧ u.closed = t.closed

/-! ### The management port (chapter 8) -/

/-- A CMD_PRODUCER write is taken when the word is at most 31 and its occupancy lies from the present one to 16; a CPL_CONSUMER
write is taken when the word is at most 63 and frees no more entries than there are; any other is ignored and latches INDEX_ERROR
(R143, R149). -/
def Obligations.IndexWritesAreTested : Prop :=
  (∀ (s : State) (v : Word),
    let now := (s.port.cmdProducer + 32 - s.port.cmdConsumer) % 32
    let new := (v.toNat + 32 - s.port.cmdConsumer) % 32
    (v.toNat ≤ 31 → now ≤ new → new ≤ 16 →
      exec (.cmdProducerWrite v) s = .next { s with port := { s.port with cmdProducer := v.toNat } })
    ∧ (31 < v.toNat ∨ new < now ∨ 16 < new →
      exec (.cmdProducerWrite v) s = .next { s with port := { s.port with latched := s.port.latched ||| 0x10#32 } }))
  ∧ (∀ (s : State) (v : Word),
    let entries := (s.port.cplProducer + 64 - s.port.cplConsumer) % 64
    let freed := (v.toNat + 64 - s.port.cplConsumer) % 64
    (v.toNat ≤ 63 → freed ≤ entries →
      exec (.cplConsumerWrite v) s = .next { s with port := { s.port with cplConsumer := v.toNat } })
    ∧ (63 < v.toNat ∨ entries < freed →
      exec (.cplConsumerWrite v) s = .next { s with port := { s.port with latched := s.port.latched ||| 0x10#32 } }))

/-- The interrupt line is asserted exactly while a cause is both present and enabled; the nine causes stand at bits 0 to 4 and
8 to 11; CPL, LEARNED and CLOSED follow their conditions; a CAUSE write clears the latched causes written 1 and no other, and
a CAUSE_ENABLE write sets all nine enables at once (R151, R152). -/
def Obligations.CausesAndTheInterruptLine : Prop :=
  (∀ s : State, s.interruptLine = true ↔ ∃ i, i < 32 ∧ s.causes.getLsbD i = true ∧ s.port.enables.getLsbD i = true)
  ∧ (∀ s : State, s.port.latched &&& 7#32 = 0#32 →
      (s.causes.getLsbD 0 = true ↔ 0 < s.port.entries) ∧ (s.causes.getLsbD 1 = true ↔ s.seen.learned ≠ [])
      ∧ (s.causes.getLsbD 2 = true ↔ s.seen.closed ≠ [])
      ∧ ∀ i, 3 ≤ i → s.causes.getLsbD i = s.port.latched.getLsbD i)
  ∧ (∀ (s : State) (v : Word), ∃ l, exec (.causeWrite v) s = .next { s with port := { s.port with latched := l } }
      ∧ ∀ i, l.getLsbD i = (s.port.latched.getLsbD i && !v.getLsbD i))
  ∧ (∀ (s : State) (v : Word), ∃ e, exec (.causeEnableWrite v) s = .next { s with port := { s.port with enables := e } }
      ∧ ∀ i, e.getLsbD i = (v.getLsbD i && decide (i < 5 ∨ (8 ≤ i ∧ i < 12))))

/-- A CONTROL write with bit 1 clear sets run enable to bit 0 and changes nothing else. With bit 1 set it makes a port reset:
run enable from bit 0; both queues and the reservations empty, the latched causes clear, nothing in execution; the sweep unit in
IDLE with no command pending and no position waiting, its cursor, counts and parameters kept; a DRAINING channel DISABLED with
CLOSE_NOTICE RESET and no completion, every other channel as it was; the operation at the table kept, its result to be discarded
when it is the CP's, the SU's or a DRAINING channel's; the slots of the window, the enables, the snapshot, the seed, the tables,
the flow table and the lease timer as they were (R142, R153, R154, R77, R178, R30, R29). -/
def Obligations.ControlWritesSetRunAndResetThePort : Prop :=
  (∀ (s : State) (v : Word), v.getLsbD 1 = false →
    exec (.runEnableWrite v) s = .next { s with port := { s.port with run := v.getLsbD 0 } })
  ∧ (∀ (s : State) (v : Word), v.getLsbD 1 = true →
    ∃ t, exec (.portReset v) s = .next t
      ∧ t.port = { s.port with
          run := v.getLsbD 0, cmdProducer := 0, cmdConsumer := 0, cplProducer := 0, cplConsumer := 0,
          reservations := 0, latched := 0#32 }
      ∧ t.inExec = none
      ∧ t.sweep = { s.sweep with state := .idle, pendingSweep := none, pendingSuspend := none, presented := false }
      ∧ (∀ c, (s.chan c).state = .draining →
          t.chan c = { s.chan c with
            state := .disabled, queue := [], waitingAnswers := [], unanswered := 0, presented := false,
            closePending := none, lane := (s.chan c).lane ++ [.closeNotice .reset] })
      ∧ (∀ c, (s.chan c).state ≠ .draining → t.chan c = s.chan c)
      ∧ (s.opAtTable = none → t.opAtTable = none)
      ∧ (∀ op, s.opAtTable = some op → ∃ a, t.opAtTable = some { op with abandoned := a }
          ∧ (a = true ↔ op.abandoned = true ∨ op.requester = .cp ∨ op.requester = .su
              ∨ ∃ c, op.requester = .lc c ∧ (s.chan c).state = .draining))
      ∧ t.seed = s.seed ∧ t.domains = s.domains ∧ t.profiles = s.profiles ∧ t.table = s.table ∧ t.timer = s.timer
      ∧ t.lastGranted = s.lastGranted ∧ t.freeCount = s.freeCount ∧ t.pending = s.pending)

/-- A window write: a word of a command slot stores its four bytes, least significant at the lowest offset, and no other byte
changes; a write of a read-only word, a completion slot or an unlisted offset changes nothing; the two lowest address bits are
ignored (R139, R144, R179). A write of a word that has a row of its own acts as that row (log entry 16). -/
def Obligations.WindowWriteStoresCommandSlotBytes : Prop :=
  ∀ (s : State) (o : BitVec 12) (v : Word),
    let a := o.toNat / 4 * 4
    (0x100 ≤ a → a < 0x400 → ∃ w, exec (.windowWrite o v) s = .next { s with port := { s.port with window := w } }
      ∧ (∀ j, j < 4 → loadByte w (a + j) = v.extractLsb' (8 * j) 8)
      ∧ ∀ n, (∀ j, j < 4 → n ≠ a + j) → loadByte w n = loadByte s.port.window n)
    ∧ (isControlWord o = false → a < 0x100 ∨ 0x400 ≤ a → exec (.windowWrite o v) s = .next s)
    ∧ (a = 0x008 → v.getLsbD 1 = false → exec (.windowWrite o v) s = exec (.runEnableWrite v) s)
    ∧ (a = 0x008 → v.getLsbD 1 = true → exec (.windowWrite o v) s = exec (.portReset v) s)
    ∧ (a = 0x00C → exec (.windowWrite o v) s = exec (.causeWrite v) s)
    ∧ (a = 0x010 → exec (.windowWrite o v) s = exec (.causeEnableWrite v) s)
    ∧ (a = 0x014 → exec (.windowWrite o v) s = exec (.cmdProducerWrite v) s)
    ∧ (a = 0x020 → exec (.windowWrite o v) s = exec (.cplConsumerWrite v) s)

/-- What a read of the window returns: IDENT 0x3C220801, each STATUS field at its bits, run enable alone in CONTROL, the
indexes, the time base's low word in TIME_LOW, the snapshot latch in TIME_HIGH, a slot word from its four bytes, and 0 at an
unlisted offset (R139, R140, R102, section 8.1). -/
def Obligations.WindowReadsAreTheRegisters : Prop :=
  ∀ (s : State) (o : BitVec 12), s.port.cmdProducer < 32 → s.port.cmdConsumer < 32 → s.port.cplProducer < 64 →
    s.port.cplConsumer < 64 →
    let a := o.toNat / 4 * 4
    let r := (s.readWord o).toNat
    (a = 0x000 → r = 0x3C220801)
    ∧ (a = 0x004 → r % 2 = flagCode s.port.ready ∧ r / 2 % 2 = flagCode s.port.run
        ∧ r / 16 % 8 = s.sweep.state.code ∧ (∀ c : Fin 4, r / 2 ^ (8 + 2 * c.val) % 4 = (s.chan c).state.code)
        ∧ r / 4 % 4 = 0 ∧ r / 128 % 2 = 0 ∧ r < 65536)
    ∧ (a = 0x008 → r = flagCode s.port.run) ∧ (a = 0x00C → r = s.causes.toNat) ∧ (a = 0x010 → r = s.port.enables.toNat)
    ∧ (a = 0x014 → r = s.port.cmdProducer) ∧ (a = 0x018 → r = s.port.cmdConsumer)
    ∧ (a = 0x01C → r = s.port.cplProducer) ∧ (a = 0x020 → r = s.port.cplConsumer)
    ∧ (a = 0x024 → r = s.timer.timeBase % 2 ^ 32) ∧ (a = 0x028 → r = s.port.snapshot.toNat)
    ∧ (0x100 ≤ a → a < 0xC00 → ∀ j, j < 4 → r / 256 ^ j % 256 = (loadByte s.port.window (a + j)).toNat)
    ∧ ((0x02C ≤ a ∧ a < 0x100) ∨ 0xC00 ≤ a → r = 0)

/-- A TIME_LOW read returns bits 31..0 of the time base (the word that the model records as the read's data) and copies bits 47..32 into the snapshot latch; a TIME_HIGH read then
returns the latch, so the two words are the time base of the TIME_LOW read; the latch is changed by nothing but a TIME_LOW read
and power-on reset; a write to either word is ignored (R102). -/
def Obligations.TimeLowReadLatchesTheHighPart : Prop :=
  (∀ s : State, s.timer.timeBase ≤ 281474976710655 →
    ∃ t, exec .timeLowRead s = .next t
      ∧ t = { s with port := { s.port with readData := t.port.readData, snapshot := t.port.snapshot } }
      ∧ (s.readWord 0x024#12).toNat = s.timer.timeBase % 2 ^ 32 ∧ t.port.readData = s.readWord 0x024#12
      ∧ t.port.snapshot.toNat = s.timer.timeBase / 2 ^ 32 ∧ (t.readWord 0x028#12).toNat = t.port.snapshot.toNat
      ∧ (s.readWord 0x024#12).toNat + 2 ^ 32 * (t.readWord 0x028#12).toNat = s.timer.timeBase)
  ∧ (∀ (c : Instr) (s t : State), c ≠ .timeLowRead → c ≠ .powerOnReset → exec c s = .next t →
      t.port.snapshot = s.port.snapshot)
  ∧ State.reset.port.snapshot = 0#16
  ∧ (∀ (s : State) (v : Word), exec (.windowWrite 0x024#12 v) s = .next s ∧ exec (.windowWrite 0x028#12 v) s = .next s)

/-- Posting a completion: the whole 64-byte record goes into slot CPL_PRODUCER mod 32, no other byte of the window changes,
CPL_PRODUCER advances by 1 mod 64, and one reservation is consumed (R149). A descriptor is the 48 bytes of its slot, byte +0 the
least significant, and a field of several bytes is stored least significant byte first (R143, R144, R179). -/
def Obligations.SlotsHoldDescriptorsAndRecords : Prop :=
  (∀ (s : State) (tag : BitVec 16) (kind : Byte) (st : Status) (r : Results),
    let t := s.post tag kind st r
    let slot := 0x400 + 64 * (s.port.cplProducer % 32)
    (∀ j, j < 64 → (loadByte t.port.window (slot + j)).toNat = completionBits tag kind st r / 256 ^ j % 256)
    ∧ (∀ n, n < slot ∨ slot + 64 ≤ n → loadByte t.port.window n = loadByte s.port.window n)
    ∧ t.port.cplProducer = (s.port.cplProducer + 1) % 64 ∧ t.port.reservations = s.port.reservations - 1
    ∧ t = { s with port := { s.port with
        window := t.port.window, cplProducer := t.port.cplProducer, reservations := t.port.reservations } })
  ∧ (∀ (s : State) (i j : Nat), j < 48 →
    fieldAt (s.descriptorAt i) j 1 = (loadByte s.port.window (0x100 + 48 * (i % 16) + j)).toNat)
  ∧ (∀ (d : Descriptor) (off n : Nat), fieldAt d off (n + 1) = fieldAt d off 1 + 256 * fieldAt d (off + 1) n)

/-- The layout of a completion that carries record fields: the tag, the kind, the status and every field of the record layout
can be read back from the 64 bytes at its own bits, so that no two fields share a bit; and a whole image carries every field of
its record (R182, R150, R17). Of every other completion: each result field stands in the bytes of its layout, and every byte that
the layout does not name is 0 (R182, R180, R150). That SET_DOMAIN, refused at its checks, gives its count alone is the model's
reading (log entry 12). -/
def Obligations.CompletionRecordReadsBack : Prop :=
  (∀ (tag : BitVec 16) (kind : Byte) (st : Status) (r : RecordFields),
    let v := completionBits tag kind st (.record r)
    let bits : Nat → Nat → Nat := fun off width => v / 2 ^ off % 2 ^ width
    v < 2 ^ 512 ∧ bits 0 16 = tag.toNat ∧ bits 16 8 = kind.toNat ∧ bits 24 5 = st.code
    ∧ bits 29 1 = flagCode r.reliable ∧ bits 30 1 = flagCode r.pinned ∧ bits 31 1 = flagCode r.reported
    ∧ bits 32 14 = r.handle % 2 ^ 14 ∧ bits 46 2 = r.timer.kind ∧ bits 48 8 = r.generation.toNat
    ∧ bits 56 3 = r.state.code ∧ bits 59 3 = r.origin % 8 ∧ bits 62 4 = r.domain % 16 ∧ bits 66 6 = r.profile % 64
    ∧ bits 72 8 = r.cls.toNat ∧ bits 80 16 = r.leaseInterval % 2 ^ 16 ∧ bits 96 24 = r.tokens % 2 ^ 24
    ∧ bits 120 128 = r.key.toNat ∧ bits 248 48 = r.timer.value % 2 ^ 48 ∧ bits 296 48 = r.meterTime % 2 ^ 48
    ∧ bits 344 48 = r.created % 2 ^ 48 ∧ bits 392 40 = r.packets % 2 ^ 40 ∧ bits 432 48 = r.bytes % 2 ^ 48
    ∧ bits 480 32 = r.exceeds % 2 ^ 32)
  ∧ (∀ (t : FlowTable) (h : Nat), t.image h = (t.slot h).wholeImage h)
  ∧ (∀ (tag : BitVec 16) (kind : Byte) (st : Status),
    let laid : Results → List (Nat × Nat × Nat) → Prop := fun r fields =>
      let v := completionBits tag kind st r
      let at_ : Nat → Nat → Nat := fun off size => v / 256 ^ off % 256 ^ size
      v < 2 ^ 512 ∧ at_ 0 2 = tag.toNat ∧ at_ 2 1 = kind.toNat ∧ at_ 3 1 = st.code
      ∧ (∀ f ∈ fields, at_ f.1 f.2.1 = f.2.2 % 256 ^ f.2.1)
      ∧ ∀ j, 4 ≤ j → (∀ f ∈ fields, j < f.1 ∨ f.1 + f.2.1 ≤ j) → at_ j 1 = 0
    laid .none []
    ∧ (∀ seed : BitVec 11, laid (.seed seed) [(4, 2, seed.toNat)])
    ∧ (∀ (n : Fin 16) (e : DomainEntry) (count : Nat), laid (.domain n e count)
      [(4, 1, n.val), (5, 1, e.learnMode.code), (6, 1, e.learnClass.toNat), (7, 1, e.learnProfile.val), (10, 2, e.learnLease),
        (12, 2, e.timeout), (14, 2, e.quota), (16, 1, flagCode e.enabled), (17, 1, flagCode e.autoRelease), (18, 2, count),
        (32, 16, e.mask.toNat)])
    ∧ (∀ count : Nat, laid (.domainCount count) [(18, 2, count)])
    ∧ (∀ (n : Fin 16) (quota count : Nat),
      laid (.insertQuota n quota count) [(8, 1, n.val), (14, 2, quota), (18, 2, count)])
    ∧ (∀ (n : Fin 64) (p : Profile), laid (.profile n p) [(4, 1, n.val), (8, 4, p.rate), (12, 4, p.burst)])
    ∧ (∀ channel action state fault unanswered : Nat, laid (.channel channel action state fault unanswered)
      [(4, 1, channel), (5, 1, action), (6, 1, state), (7, 1, fault), (8, 1, unanswered)])
    ∧ (∀ (divider : Nat) (enable : Bool) (timeBase : Nat), laid (.tick divider enable timeBase)
      [(4, 4, divider), (8, 1, flagCode enable), (16, 6, timeBase)])
    ∧ (∀ timeBase : Nat, laid (.time timeBase) [(16, 6, timeBase)])
    ∧ (∀ (x : SweepState) (cursor visited matched acted : Nat), laid (.sweep x cursor visited matched acted)
      [(4, 1, x.code), (6, 2, cursor), (8, 2, visited), (10, 2, matched), (12, 2, acted)]))

/-! ### Taking commands (sections 8.4 and 8.5) -/

/-- A command whose work is a table operation is taken when the five conditions hold and its arguments are in range: its
descriptor is copied, CMD_CONSUMER advances, a completion slot is reserved, and its operation waits at the arbiter (R145, R147,
R28). -/
def Obligations.TableCommandIsTakenAndPresented : Prop :=
  ∀ (s : State) (i : Instr) (k : Byte), (i, k) ∈ tableCommands → CanTakeNow s → kindOf s.nextDescriptor = k →
    checkFor s.nextDescriptor = true →
    exec i s = .next (s.afterTake (some { desc := s.nextDescriptor, phase := .waiting }))

/-- The arguments a table command is checked for are those of its rule, and a command refused at its checks completes
BAD_ARGUMENT at once and changes nothing else; a kind code that names no command completes UNKNOWN_COMMAND the same way (R146, R181,
R22, R45, R2, R116, R125, R155, R161). The result fields are 0, save that SWEEP gives its five (R167, R168), CHANNEL_CONTROL its
five, the last three 0 for a channel above 3 (R72), SET_DOMAIN the count of a domain 0..15 (R40), and CONFIRM the reference as the
descriptor gave it (R126), its handle field free when the handle is above 16383 and does not fit (log entry 27); that the others
are 0, the other fields of SET_DOMAIN and CONFIRM among them, is the model's reading (log entry 12). An action code that names no action is refused
whichever CHANNEL_CONTROL row takes it (log entry 4). -/
def Obligations.RefusedCommandsChangeNothingElse : Prop :=
  (∀ d : Descriptor,
    let f := fieldAt d
    let settings := f 8 2 ≤ 255 ∧ f 10 1 ≤ 63 ∧ f 12 4 ≤ 65535 ∧ f 11 1 ≤ 1
    (kindOf d = 1#8 → (checkFor d = true ↔ f 4 2 ≤ 2047))
    ∧ (kindOf d = 2#8 → (checkFor d = true ↔ f 4 1 ≤ 15
        ∧ ((f 8 2).testBit 2 = true → f 5 1 ≤ 2) ∧ ((f 8 2).testBit 4 = true → f 7 1 ≤ 63)
        ∧ ((f 8 2).testBit 6 = true → f 12 2 ≠ 0) ∧ ((f 8 2).testBit 8 = true → f 14 2 ≤ 8256)
        ∧ ((f 8 2).testBit 0 = true → f 16 1 ≤ 1) ∧ ((f 8 2).testBit 7 = true → f 17 1 ≤ 1)
        ∧ ∀ i, 9 ≤ i → (f 8 2).testBit i = false))
    ∧ (kindOf d = 9#8 → (checkFor d = true ↔ f 4 2 ≤ 8255 ∧ f 8 4 ≤ 65535))
    ∧ (kindOf d = 11#8 → (checkFor d = true ↔ f 4 2 ≤ 8255 ∧ settings))
    ∧ (kindOf d = 12#8 ∨ kindOf d = 13#8 ∨ kindOf d = 17#8 ∨ kindOf d = 19#8 →
        (checkFor d = true ↔ f 4 2 ≤ 8255))
    ∧ (kindOf d = 15#8 → (checkFor d = true ↔ f 4 1 ≤ 15 ∧ settings))
    ∧ (kindOf d = 16#8 → (checkFor d = true ↔ f 4 1 ≤ 15))
    ∧ (kindOf d = 18#8 → (checkFor d = true ↔ f 4 2 ≤ 8255
        ∧ ((f 16 1).testBit 0 = true → f 8 2 ≤ 255) ∧ ((f 16 1).testBit 1 = true → f 10 1 ≤ 63)
        ∧ ((f 16 1).testBit 2 = true → f 12 4 ≤ 65535) ∧ ((f 16 1).testBit 3 = true → f 11 1 ≤ 1)
        ∧ ∀ i, 4 ≤ i → (f 16 1).testBit i = false)))
  ∧ (∀ s : State, CanTakeNow s →
    let d := s.nextDescriptor
    let f := fieldAt d
    let k := kindOf d
    let channelFields : Results := if h : f 4 1 < 4 then
        .channel (f 4 1) (f 5 1) (s.chan ⟨f 4 1, h⟩).state.code (s.chan ⟨f 4 1, h⟩).faultReason.code
          (s.chan ⟨f 4 1, h⟩).unanswered
      else .channel (f 4 1) (f 5 1) 0 0 0
    (∀ i, (i, k) ∈ tableCommands → k ≠ 2#8 → k ≠ 11#8 → checkFor d = false →
      exec i s = .next (s.takenAndPosted .badArgument .none))
    ∧ (k = 11#8 → checkFor d = false → ∃ h, h < 16384 ∧ (f 4 2 < 16384 → h = f 4 2)
      ∧ exec .confirm s = .next (s.takenAndPosted .badArgument
          (.record { handle := h, generation := BitVec.ofNat 8 (f 6 1), state := .free })))
    ∧ (∀ n : Fin 16, k = 2#8 → f 4 1 = n.val → checkFor d = false →
      exec .setDomain s = .next (s.takenAndPosted .badArgument (.domainCount (s.seen.count n))))
    ∧ (k = 2#8 → 15 < f 4 1 → exec .setDomain s = .next (s.takenAndPosted .badArgument .none))
    ∧ (k = 3#8 → 15 < f 4 1 → exec .queryDomain s = .next (s.takenAndPosted .badArgument .none))
    ∧ (k = 4#8 → f 4 1 = 0 ∨ 63 < f 4 1 ∨ 1048575 < f 8 4 ∨ 16777215 < f 12 4 →
        exec .setProfile s = .next (s.takenAndPosted .badArgument .none))
    ∧ (k = 5#8 → 63 < f 4 1 → exec .queryProfile s = .next (s.takenAndPosted .badArgument .none))
    ∧ (k = 7#8 → f 4 4 = 0 ∨ 65536 < f 4 4 ∨ 1 < f 8 1 → exec .setTick s = .next (s.takenAndPosted .badArgument .none))
    ∧ (k = 8#8 → 281474976710655 < f 8 8 → exec .setTime s = .next (s.takenAndPosted .badArgument .none))
    ∧ (k = 20#8 → (15 < f 4 1 ∧ f 4 1 ≠ 255) ∨ 8 ≤ f 5 1 ∨ 4 < f 6 1 ∨ 255 < f 8 2 ∨ 255 < f 10 2
        ∨ (f 6 1 = 2 ∧ 255 < f 12 2) ∨ (f 6 1 = 3 ∧ 63 < f 7 1) →
        exec .sweep s = .next (s.takenAndPosted .badArgument
          (.sweep s.sweep.state s.sweep.cursor s.sweep.visited s.sweep.matched s.sweep.acted)))
    ∧ (k = 6#8 → 3 < f 4 1 → 1 ≤ f 5 1 ∧ f 5 1 ≤ 3 →
        ∀ i, (f 5 1 = 1 ∧ i = .channelControlOpen) ∨ (f 5 1 = 2 ∧ i = .channelControlClose)
            ∨ (f 5 1 = 3 ∧ i = .channelControlReset) →
          exec i s = .next (s.takenAndPosted .badArgument channelFields))
    ∧ (k = 6#8 → f 5 1 = 0 ∨ 3 < f 5 1 → ∀ i ∈ [Instr.channelControlOpen, .channelControlClose, .channelControlReset],
        exec i s = .next (s.takenAndPosted .badArgument channelFields)))
  ∧ (∀ s : State, CanTakeNow s → (kindOf s.nextDescriptor = 0#8 ∨ 24 ≤ (kindOf s.nextDescriptor).toNat) →
    exec .unknownCommand s = .next (s.takenAndPosted .unknownCommand .none))

/-- Nothing is taken unless all five conditions hold, and no row takes a descriptor of another kind (R145). That such a
command leaves the state as it is is the model's choice (log entries 2, 3). -/
def Obligations.NothingIsTakenUnlessAllConditionsHold : Prop :=
  ∀ (s : State) (i : Instr) (k : Byte), (i, k) ∈ tableCommands ++ actionCommands ∨ (i = .unknownCommand ∧ k = 0#8) →
    (¬ CanTakeNow s → exec i s = .next s)
    ∧ (i ≠ .unknownCommand → kindOf s.nextDescriptor ≠ k → exec i s = .next s)
    ∧ (i = .unknownCommand → 1 ≤ (kindOf s.nextDescriptor).toNat → (kindOf s.nextDescriptor).toNat ≤ 23 →
        exec i s = .next s)

/-- QUERY_DOMAIN completes OK with the entry and the count the last ended operation left; SET_PROFILE writes rate and burst
together and completes OK with them; QUERY_PROFILE completes OK with the entry, 0 and 0 for profile 0 (R47, R49, R50). -/
def Obligations.DomainAndProfileCommandsComplete : Prop :=
  ∀ s : State, CanTakeNow s →
    let d := s.nextDescriptor
    let f := fieldAt d
    (∀ n : Fin 16, kindOf d = 3#8 → f 4 1 = n.val →
      exec .queryDomain s = .next (s.takenAndPosted .ok (.domain n s.domains[n] (s.seen.count n))))
    ∧ (∀ p : Fin 64, kindOf d = 4#8 → f 4 1 = p.val → p ≠ 0 → f 8 4 ≤ 1048575 → f 12 4 ≤ 16777215 →
      ∃ ps, exec .setProfile s = .next { s.takenAndPosted .ok (.profile p { rate := f 8 4, burst := f 12 4 }) with
          profiles := ps }
        ∧ ∀ q : Fin 64, ps[q] = if q = p then { rate := f 8 4, burst := f 12 4 } else s.profiles[q])
    ∧ (∀ p : Fin 64, kindOf d = 5#8 → f 4 1 = p.val → p ≠ 0 →
      exec .queryProfile s = .next (s.takenAndPosted .ok (.profile p s.profiles[p])))
    ∧ (kindOf d = 5#8 → f 4 1 = 0 →
      exec .queryProfile s = .next (s.takenAndPosted .ok (.profile 0 { rate := 0, burst := 0 })))

/-- SET_TICK sets divider and enable together and restarts the divider count; SET_TIME moves the time base to a value at or
above it and completes BACKWARD, changing nothing, below it; each completion carries the timer as the command left it (R101,
R103). -/
def Obligations.SetTickAndSetTimeComplete : Prop :=
  ∀ s : State, CanTakeNow s →
    let d := s.nextDescriptor
    let f := fieldAt d
    (kindOf d = 7#8 → 1 ≤ f 4 4 → f 4 4 ≤ 65536 → f 8 1 ≤ 1 →
      exec .setTick s = .next { s.takenAndPosted .ok (.tick (f 4 4) (decide (f 8 1 = 1)) s.timer.timeBase) with
        timer := { s.timer with divider := f 4 4, enable := decide (f 8 1 = 1), dividerCount := 0 } })
    ∧ (kindOf d = 8#8 → s.timer.timeBase ≤ f 8 8 → f 8 8 ≤ 281474976710655 →
      exec .setTime s = .next { s.takenAndPosted .ok (.time (f 8 8)) with
        timer := { s.timer with timeBase := f 8 8 } })
    ∧ (kindOf d = 8#8 → f 8 8 < s.timer.timeBase → f 8 8 ≤ 281474976710655 →
      exec .setTime s = .next (s.takenAndPosted .backward (.time s.timer.timeBase)))

/-! ### CHANNEL_CONTROL (section 4.5) -/

/-- CHANNEL_CONTROL OPEN of a DISABLED channel: OPEN with an empty queue and no request unanswered, CREDIT_GRANT 8 on its lane,
OK; in any other state WRONG_STATE and no change (R73, R60, R72). -/
def Obligations.ChannelOpenGrantsEightCredits : Prop :=
  ∀ (s : State) (c : Fin 4), CanTakeNow s →
    let d := s.nextDescriptor
    let ch := s.chan c
    kindOf d = 6#8 → fieldAt d 4 1 = c.val → fieldAt d 5 1 = 1 →
    (ch.state = .disabled →
      exec .channelControlOpen s = .next
        ((s.setChan c { ch with
            state := .opened, queue := [], unanswered := 0, lane := ch.lane ++ [.creditGrant 8] }).takenAndPosted .ok
          (.channel c.val 1 1 ch.faultReason.code 0)))
    ∧ (ch.state ≠ .disabled →
      exec .channelControlOpen s = .next
        (s.takenAndPosted .wrongState (.channel c.val 1 ch.state.code ch.faultReason.code ch.unanswered)))

/-- CHANNEL_CONTROL CLOSE: an OPEN channel with requests unanswered or an operation at the table becomes DRAINING, the CLOSE
leaving execution with its reservation kept; an OPEN channel with neither becomes DISABLED with CLOSE_NOTICE HOST, OK; a DISABLED
channel is left, OK; DRAINING and FAULT give WRONG_STATE (R74, R148, R72). -/
def Obligations.ChannelCloseDrainsOrDisables : Prop :=
  ∀ (s : State) (c : Fin 4), CanTakeNow s →
    let d := s.nextDescriptor
    let ch := s.chan c
    kindOf d = 6#8 → fieldAt d 4 1 = c.val → fieldAt d 5 1 = 2 →
    (ch.state = .opened → 0 < ch.unanswered ∨ s.atTable (.lc c) = true →
      exec .channelControlClose s = .next
        ((s.setChan c { ch with state := .draining, closePending := some (tagOf d) }).afterTake none))
    ∧ (ch.state = .opened → ch.unanswered = 0 → s.atTable (.lc c) = false →
      exec .channelControlClose s = .next
        ((s.setChan c { ch with state := .disabled, lane := ch.lane ++ [.closeNotice .host] }).takenAndPosted .ok
          (.channel c.val 2 0 ch.faultReason.code 0)))
    ∧ (ch.state = .disabled →
      exec .channelControlClose s = .next
        (s.takenAndPosted .ok (.channel c.val 2 0 ch.faultReason.code ch.unanswered)))
    ∧ (ch.state = .draining ∨ ch.state = .fault →
      exec .channelControlClose s = .next
        (s.takenAndPosted .wrongState (.channel c.val 2 ch.state.code ch.faultReason.code ch.unanswered)))

/-- CHANNEL_CONTROL RESET from any state: the queue, the waiting answers and a waiting request discarded, the count 0, the fault
reason none, the channel's latched fault cause cleared, DISABLED with CLOSE_NOTICE RESET, OK; a CLOSE that was pending completes
ABORTED before it, with the state and count it found; an operation of the channel at the table will have its result discarded (R75, R65, R30). -/
def Obligations.ChannelResetDisablesFromAnyState : Prop :=
  ∀ (s : State) (c : Fin 4), CanTakeNow s →
    let d := s.nextDescriptor
    let ch := s.chan c
    kindOf d = 6#8 → fieldAt d 4 1 = c.val → fieldAt d 5 1 = 3 →
    ∃ t, exec .channelControlReset s = .next t
      ∧ t.chan c = { ch with
          state := .disabled, queue := [], waitingAnswers := [], unanswered := 0, presented := false,
          faultReason := .none, closePending := none, lane := ch.lane ++ [.closeNotice .reset] }
      ∧ (∀ c', c' ≠ c → t.chan c' = s.chan c')
      ∧ t.port.latched = s.port.latched &&& ~~~(1#32 <<< (8 + c.val))
      ∧ (∀ op, s.opAtTable = some op →
          t.opAtTable = some { op with abandoned := op.abandoned || decide (op.requester = .lc c) })
      ∧ (s.opAtTable = none → t.opAtTable = none)
      ∧ (ch.closePending = none →
          t.port = { (s.takenAndPosted .ok (.channel c.val 3 0 0 0)).port with latched := t.port.latched })
      ∧ (∀ tag, ch.closePending = some tag →
          t.port = { (((s.afterTake none).post tag 6#8 .aborted
              (.channel c.val 2 ch.state.code ch.faultReason.code ch.unanswered)).post (tagOf d) (kindOf d) .ok
                (.channel c.val 3 0 0 0)).port with latched := t.port.latched })
      ∧ t.inExec = none ∧ t.seed = s.seed ∧ t.domains = s.domains ∧ t.profiles = s.profiles ∧ t.table = s.table
      ∧ t.lastGranted = s.lastGranted ∧ t.timer = s.timer ∧ t.sweep = s.sweep ∧ t.freeCount = s.freeCount
      ∧ t.pending = s.pending

/-! ### The sweep commands (sections 10.2 and 10.7) -/

/-- SWEEP in IDLE: RUNNING, cursor and counts 0, parameters stored, position 0 presented unless an old position is still at the
table, the command pending with its reservation; BUSY in RUNNING, SUSPENDING and SUSPENDED (R168, R178, R148, R181). -/
def Obligations.SweepStartsAWalk : Prop :=
  ∀ s : State, CanTakeNow s →
    let d := s.nextDescriptor
    let f := fieldAt d
    kindOf d = 20#8 → f 4 1 ≤ 15 ∨ f 4 1 = 255 → f 5 1 < 8 → f 6 1 ≤ 4 → f 8 2 ≤ 255 → f 10 2 ≤ 255 →
    (f 6 1 = 2 → f 12 2 ≤ 255) → (f 6 1 = 3 → f 7 1 ≤ 63) →
    (s.sweep.state = .idle → ∃ t, exec .sweep s = .next t
      ∧ t = { s.afterTake none with sweep := t.sweep }
      ∧ t.sweep.state = .running ∧ t.sweep.cursor = 0 ∧ t.sweep.visited = 0 ∧ t.sweep.matched = 0 ∧ t.sweep.acted = 0
      ∧ t.sweep.pendingSweep = some (tagOf d) ∧ t.sweep.pendingSuspend = s.sweep.pendingSuspend
      ∧ t.sweep.presented = (s.sweep.presented || !s.atTable .su)
      ∧ (f 4 1 = 255 → t.sweep.params.selector = none)
      ∧ (∀ n : Fin 16, f 4 1 = n.val → t.sweep.params.selector = some n)
      ∧ t.sweep.params.classValue.toNat = f 8 2 ∧ t.sweep.params.classMask.toNat = f 10 2
      ∧ t.sweep.params.onProvisional = (f 5 1).testBit 0 ∧ t.sweep.params.onActive = (f 5 1).testBit 1
      ∧ t.sweep.params.onHeld = (f 5 1).testBit 2
      ∧ (f 6 1 = 0 → t.sweep.params.action = .count) ∧ (f 6 1 = 1 → t.sweep.params.action = .retire)
      ∧ (∀ c : Byte, f 6 1 = 2 → f 12 2 = c.toNat → t.sweep.params.action = .reclass c)
      ∧ (∀ p : Fin 64, f 6 1 = 3 → f 7 1 = p.val → t.sweep.params.action = .reprofile p)
      ∧ (f 6 1 = 4 → t.sweep.params.action = .release))
    ∧ (s.sweep.state = .running ∨ s.sweep.state = .suspending ∨ s.sweep.state = .suspended →
      exec .sweep s = .next (s.takenAndPosted .busy
        (.sweep s.sweep.state s.sweep.cursor s.sweep.visited s.sweep.matched s.sweep.acted)))

/-- SWEEP_SUSPEND: from RUNNING to SUSPENDING, pending with its reservation; OK in SUSPENDED, NOT_RUNNING in IDLE, BUSY in
SUSPENDING (R175, R148). SWEEP_RESUME: a SUSPENDED walk runs on from its cursor, OK; NOT_RUNNING in IDLE, WRONG_STATE in RUNNING
and SUSPENDING; with nothing at the table, as the law of the sweep unit has it (R176). SWEEP_ABORT: from RUNNING or SUSPENDING to ABORTING,
staying in execution; from SUSPENDED the walk ends at once, the pending SWEEP completing ABORTED and then the abort OK, both with
state IDLE; NOT_RUNNING in IDLE (R177, R167). -/
def Obligations.SweepSuspendResumeAndAbort : Prop :=
  (∀ s : State, CanTakeNow s → kindOf s.nextDescriptor = 21#8 →
    let fields : Results := .sweep s.sweep.state s.sweep.cursor s.sweep.visited s.sweep.matched s.sweep.acted
    (s.sweep.state = .running →
      exec .sweepSuspend s = .next { s.afterTake none with
        sweep := { s.sweep with state := .suspending, pendingSuspend := some (tagOf s.nextDescriptor) } })
    ∧ (s.sweep.state = .suspended → exec .sweepSuspend s = .next (s.takenAndPosted .ok fields))
    ∧ (s.sweep.state = .idle → exec .sweepSuspend s = .next (s.takenAndPosted .notRunning fields))
    ∧ (s.sweep.state = .suspending → exec .sweepSuspend s = .next (s.takenAndPosted .busy fields)))
  ∧ (∀ s : State, CanTakeNow s → kindOf s.nextDescriptor = 22#8 →
    let fields : SweepState → Results := fun x => .sweep x s.sweep.cursor s.sweep.visited s.sweep.matched s.sweep.acted
    (s.sweep.state = .suspended → s.atTable .su = false →
      exec .sweepResume s = .next { s.takenAndPosted .ok (fields .running) with
        sweep := { s.sweep with state := .running, presented := true } })
    ∧ (s.sweep.state = .idle → exec .sweepResume s = .next (s.takenAndPosted .notRunning (fields .idle)))
    ∧ (s.sweep.state = .running ∨ s.sweep.state = .suspending →
      exec .sweepResume s = .next (s.takenAndPosted .wrongState (fields s.sweep.state))))
  ∧ (∀ s : State, CanTakeNow s → kindOf s.nextDescriptor = 23#8 →
    let d := s.nextDescriptor
    let idle : Results := .sweep .idle s.sweep.cursor s.sweep.visited s.sweep.matched s.sweep.acted
    (s.sweep.state = .running ∨ s.sweep.state = .suspending →
      exec .sweepAbort s = .next { s.afterTake (some { desc := d, phase := .aborting }) with
        sweep := { s.sweep with state := .aborting } })
    ∧ (∀ tag, s.sweep.state = .suspended → s.sweep.pendingSweep = some tag →
      exec .sweepAbort s = .next
        { ((s.afterTake none).post tag 20#8 .aborted idle).post (tagOf d) (kindOf d) .ok idle with
          sweep := { s.sweep with state := .idle, pendingSweep := none } })
    ∧ (s.sweep.state = .idle → exec .sweepAbort s = .next (s.takenAndPosted .notRunning idle)))

/-! ### Frames and arrivals (chapter 4) -/

/-- A frame that carries a request is read back as that request, with every field at every value, and its length is the size of
its kind (R57, R183, R56). A frame the part sends has the size and layout of its kind: the kind code, the verdict, reason and state
in their codes, every field of several bytes most significant byte first, and the check over what stands before it (R183, R179,
R55, R56). -/
def Obligations.RequestFrameRoundTrip : Prop :=
  ∀ (tag : Byte) (r : RequestBody),
    classifyFrame (encodeRequest tag r) = .ok (tag, r)
    ∧ (encodeRequest tag r).length = (match r with
        | .lookup _ _ _ _ => 24
        | .peek _ _ => 21
        | .hold _ _ _ => 9)
    ∧ ∀ (f : OutFrame),
      let at_ : Nat → Nat → Nat := fun off size => natBE ((f.bytes.drop off).take size)
      let size := f.bytes.length
      at_ (size - 2) 2 = (crc (f.bytes.take (size - 2))).toNat
      ∧ (∀ (r : ServiceResult), f = .response tag r →
        size = 13 ∧ at_ 0 1 = 0x81 ∧ at_ 1 1 = tag.toNat
        ∧ (r.verdict, at_ 2 1) ∈ [(Verdict.conform, 1), (.exceed, 2), (.held, 3), (.provisional, 4), (.closed, 5),
            (.learned, 6), (.miss, 7), (.found, 8), (.accepted, 9), (.stale, 10), (.refused, 11), (.domainOff, 12),
            (.badRequest, 13), (.channelClosed, 14)]
        ∧ (r.reason, at_ 3 1) ∈ [(Reason.none, 0), (.retired, 1), (.idle, 2), (.swept, 3), (.conform, 1), (.exceed, 2),
            (.learnOff, 1), (.quota, 2), (.full, 3), (.domain, 1), (.learnFlag, 2), (.length, 3), (.handle, 4),
            (.disabled, 1), (.draining, 2)]
        ∧ at_ 4 2 = r.handle % 65536 ∧ at_ 6 1 = r.generation.toNat ∧ at_ 7 1 = r.cls.toNat
        ∧ (r.state, at_ 8 1) ∈ [(RecState.free, 0), (.provisional, 1), (.active, 2), (.held, 3), (.closing, 4)]
        ∧ at_ 9 2 = r.holdRemaining % 65536)
      ∧ (∀ n, f = .creditGrant n → size = 4 ∧ at_ 0 1 = 0x82 ∧ at_ 1 1 = n % 256)
      ∧ (∀ why, f = .closeNotice why → size = 4 ∧ at_ 0 1 = 0x83
        ∧ (why, at_ 1 1) ∈ [(NoticeReason.host, 1), (.fault, 2), (.reset, 3)])

/-- The tests of an arriving frame in their order: shorter than 4 bytes BAD_SIZE; else a check that differs BAD_CHECK; else a kind
other than LOOKUP, PEEK and HOLD UNKNOWN_KIND; else a length other than its kind's BAD_SIZE; a frame that passes is a request; and
the fault reason that an OPEN or DRAINING channel records for a frame error is the name of the first test failed (R57, R183). -/
def Obligations.FrameTestsRunInOrder : Prop :=
  (∀ f : List Byte,
    let check := natBE (f.drop (f.length - 2))
    let kind := natBE (f.take 1)
    let size := if kind = 1 then 24 else if kind = 2 then 21 else 9
    (f.length < 4 → classifyFrame f = .error .badSize)
    ∧ (4 ≤ f.length → (crc (f.take (f.length - 2))).toNat ≠ check → classifyFrame f = .error .badCheck)
    ∧ (4 ≤ f.length → (crc (f.take (f.length - 2))).toNat = check → kind = 0 ∨ 3 < kind →
        classifyFrame f = .error .unknownKind)
    ∧ (4 ≤ f.length → (crc (f.take (f.length - 2))).toNat = check → 1 ≤ kind → kind ≤ 3 → f.length ≠ size →
        classifyFrame f = .error .badSize)
    ∧ (4 ≤ f.length → (crc (f.take (f.length - 2))).toNat = check → 1 ≤ kind → kind ≤ 3 → f.length = size →
        ∃ tag r, classifyFrame f = .ok (tag, r)))
  ∧ (∀ (s : State) (c : Fin 4) (f : List Byte) (e : FrameError), (s.chan c).state = .opened ∨ (s.chan c).state = .draining →
    classifyFrame f = .error e →
    ∃ t, exec (.badFrameArrival c f) s = .next t
      ∧ (t.chan c).faultReason = (match e with
        | .badSize => .badSize
        | .badCheck => .badCheck
        | .unknownKind => .unknownKind))

/-- A well-formed request that arrives in OPEN while fewer than 8 are unanswered joins the tail of the queue, marked when a field
is out of range, and is counted; the head is presented unless an operation of the channel is at the table. With an operation at
the table, for any queue and any request; else for a queue without a bad request at its head (a law of the channel) and, when it is
empty, a request in range (R62, R63, R65, R69, R58). -/
def Obligations.RequestArrivingInOpenIsQueued : Prop :=
  ∀ (s : State) (c : Fin 4) (tag : Byte) (r : RequestBody),
    let ch := s.chan c
    let arrival : Instr := match r with
      | .lookup domain learnFlag length key => .lookupFrameArrival c tag domain learnFlag length key
      | .peek domain key => .peekFrameArrival c tag domain key
      | .hold handle generation ticks => .holdFrameArrival c tag handle generation ticks
    ch.state = .opened → ch.unanswered < 8 →
    s.atTable (.lc c) = true
      ∨ ((∀ q, ch.queue.head? = some q → q.bad = none) ∧ (ch.queue = [] → badField r = none)) →
    exec arrival s = .next (s.setChan c { ch with
      queue := ch.queue ++ [{ tag := tag, body := r, bad := badField r }]
      unanswered := ch.unanswered + 1
      presented := ch.presented || !s.atTable (.lc c) })

/-- A request is marked bad by its first field out of range, in the order of R58's table, and one in range is not marked; a bad
request that arrives in OPEN at an empty queue with no operation of its channel at the table is answered BAD_REQUEST at once,
without the table and without a change elsewhere (R58, R63, R64). -/
def Obligations.BadRequestIsAnsweredWithoutTheTable : Prop :=
  (∀ (domain learnFlag : Byte) (length : BitVec 16) (key : Key),
    (15 < domain.toNat → badField (.lookup domain learnFlag length key) = some .domain
        ∧ badField (.peek domain key) = some .domain)
    ∧ (domain.toNat ≤ 15 → badField (.peek domain key) = none)
    ∧ (domain.toNat ≤ 15 → 1 < learnFlag.toNat →
        badField (.lookup domain learnFlag length key) = some .learnFlag)
    ∧ (domain.toNat ≤ 15 → learnFlag.toNat ≤ 1 → length.toNat = 0 ∨ 16383 < length.toNat →
        badField (.lookup domain learnFlag length key) = some .length)
    ∧ (domain.toNat ≤ 15 → learnFlag.toNat ≤ 1 → 1 ≤ length.toNat → length.toNat ≤ 16383 →
        badField (.lookup domain learnFlag length key) = none))
  ∧ (∀ (handle ticks : BitVec 16) (generation : Byte),
    (8255 < handle.toNat → badField (.hold handle generation ticks) = some .handle)
    ∧ (handle.toNat ≤ 8255 → badField (.hold handle generation ticks) = none))
  ∧ (∀ (s : State) (c : Fin 4) (tag domain learnFlag generation : Byte) (length handle ticks : BitVec 16) (key : Key)
      (why : Reason),
    let ch := s.chan c
    let answered : State := s.setChan c { ch with
      lane := ch.lane ++ [.response tag { verdict := .badRequest, reason := why }] }
    ch.state = .opened → ch.unanswered = 0 → ch.queue = [] → s.atTable (.lc c) = false →
    (badField (.lookup domain learnFlag length key) = some why →
      exec (.lookupFrameArrival c tag domain learnFlag length key) s = .next answered)
    ∧ (badField (.peek domain key) = some why → exec (.peekFrameArrival c tag domain key) s = .next answered)
    ∧ (badField (.hold handle generation ticks) = some why →
      exec (.holdFrameArrival c tag handle generation ticks) s = .next answered))

/-- A well-formed request that arrives in DISABLED is answered CHANNEL_CLOSED, DISABLED, at once; in FAULT it is discarded; in
DRAINING with fewer than 8 unanswered it is answered CHANNEL_CLOSED, DRAINING, at once when nothing earlier is unanswered, else
counted and left waiting behind the earlier answers; its fields are not checked (R67, R68, R71). -/
def Obligations.RequestArrivingOutOfOpen : Prop :=
  ∀ (s : State) (c : Fin 4) (tag : Byte) (r : RequestBody),
    let ch := s.chan c
    let arrival : Instr := match r with
      | .lookup domain learnFlag length key => .lookupFrameArrival c tag domain learnFlag length key
      | .peek domain key => .peekFrameArrival c tag domain key
      | .hold handle generation ticks => .holdFrameArrival c tag handle generation ticks
    (ch.state = .disabled →
      exec arrival s = .next (s.setChan c { ch with
        lane := ch.lane ++ [.response tag { verdict := .channelClosed, reason := .disabled }] }))
    ∧ (ch.state = .fault → exec arrival s = .next s)
    ∧ (ch.state = .draining → ch.unanswered = 0 →
      exec arrival s = .next (s.setChan c { ch with
        lane := ch.lane ++ [.response tag { verdict := .channelClosed, reason := .draining }] }))
    ∧ (ch.state = .draining → 0 < ch.unanswered → ch.unanswered < 8 →
      exec arrival s = .next (s.setChan c { ch with
        waitingAnswers := ch.waitingAnswers ++ [tag], unanswered := ch.unanswered + 1 }))

/-- Entry to FAULT, from OPEN or DRAINING, at a frame error (with the reason of the first test failed) or at the arrival of a
ninth request (OVERRUN): queue, waiting request and waiting answers discarded, the count 0, CLOSE_NOTICE FAULT on the lane, the
fault cause latched, a pending CLOSE completed ABORTED, an operation at the table left to end with its result discarded. A bad
frame in DISABLED or FAULT changes nothing (R70, R57, R61, R65, R67, R71). That the aborted CLOSE carries the new state, the reason
and count 0 is the model's reading (log entry 19). -/
def Obligations.FaultEntryDiscardsAndNotifies : Prop :=
  ∀ (s : State) (c : Fin 4) (i : Instr) (why : FaultReason),
    let ch := s.chan c
    (∃ f e, i = .badFrameArrival c f ∧ classifyFrame f = .error e
        ∧ why = (match e with | .badCheck => .badCheck | .unknownKind => .unknownKind | .badSize => .badSize))
      ∨ (8 ≤ ch.unanswered ∧ why = .overrun ∧
          ((∃ tag domain learnFlag length key, i = .lookupFrameArrival c tag domain learnFlag length key)
            ∨ (∃ tag domain key, i = .peekFrameArrival c tag domain key)
            ∨ (∃ tag handle generation ticks, i = .holdFrameArrival c tag handle generation ticks))) →
    (ch.state = .opened ∨ ch.state = .draining →
      ∃ t, exec i s = .next t
        ∧ t.chan c = { ch with
            state := .fault, queue := [], waitingAnswers := [], unanswered := 0, presented := false,
            faultReason := why, closePending := none, lane := ch.lane ++ [.closeNotice .fault] }
        ∧ (∀ c', c' ≠ c → t.chan c' = s.chan c')
        ∧ (∀ op, s.opAtTable = some op →
            t.opAtTable = some { op with abandoned := op.abandoned || decide (op.requester = .lc c) })
        ∧ (s.opAtTable = none → t.opAtTable = none)
        ∧ (ch.closePending = none → t.port = { s.port with latched := s.port.latched ||| 1#32 <<< (8 + c.val) })
        ∧ (∀ tag, ch.closePending = some tag →
            t.port = { (s.post tag 6#8 .aborted (.channel c.val 2 3 why.code 0)).port with
              latched := s.port.latched ||| 1#32 <<< (8 + c.val) })
        ∧ t.inExec = s.inExec ∧ t.seed = s.seed ∧ t.domains = s.domains ∧ t.profiles = s.profiles ∧ t.table = s.table
        ∧ t.lastGranted = s.lastGranted ∧ t.timer = s.timer ∧ t.sweep = s.sweep ∧ t.freeCount = s.freeCount
        ∧ t.pending = s.pending)
    ∧ (ch.state = .disabled ∨ ch.state = .fault → (∃ f, i = .badFrameArrival c f) → exec i s = .next s)

/-! ### Requests at the table (chapter 5) -/

/-- A LOOKUP that hits an ACTIVE record: under a profile other than 0 the tokens are refilled to at most the burst, meter time is
now, and the packet CONFORMs and takes its length when the tokens reach it, else EXCEEDs; under profile 0 it CONFORMs; packets,
bytes and exceeds count it, each saturating; a lease interval above 0 arms a fresh deadline; nothing else of the record changes
(R81, R51, R52, R10, R11, R80). -/
def Obligations.LookupHitOnAnActiveRecord : Prop :=
  ∀ (s : State) (c : Fin 4) (tag flag : Byte) (d : Fin 16) (length : BitVec 16) (key : Key) (T : FlowTable) (h : Nat),
    s.nextGrant = some (.lc c) →
    (s.chan c).queue.head? = some { tag := tag, body := .lookup (BitVec.ofNat 8 d.val) flag length key, bad := none } →
    s.domains[d].enabled = true → s.table.search s.seed d (key &&& s.domains[d].mask) = (T, some h) →
    (T.dir h).state = .active →
    let b := T.body h
    let now := s.timer.timeBase
    let p := s.profiles[b.profile]
    let filled := min p.burst (b.tokens + p.rate * (now - b.meterTime))
    let conforms : Prop := b.profile = 0 ∨ length.toNat ≤ filled
    let deadline := min 281474976710655 (now + b.leaseInterval)
    ∃ (U : FlowTable) (v : Verdict), exec .lookup s = .next (s.grant (.lc c) U (.response
        { verdict := v, handle := h, generation := (T.dir h).generation, cls := b.cls, state := .active }))
      ∧ (conforms → v = .conform) ∧ (¬ conforms → v = .exceed)
      ∧ U.dir h = T.dir h ∧ U.bad h = T.bad h ∧ FlowTable.OthersKept T U h
      ∧ U.body h = { b with
          tokens := (U.body h).tokens
          meterTime := if b.profile = 0 then b.meterTime else now
          packets := min 1099511627775 (b.packets + 1)
          bytes := min 281474976710655 (b.bytes + length.toNat)
          exceeds := (U.body h).exceeds
          deadline := if 0 < b.leaseInterval then some deadline else b.deadline }
      ∧ (b.profile = 0 → (U.body h).tokens = b.tokens)
      ∧ (b.profile ≠ 0 → length.toNat ≤ filled → (U.body h).tokens = filled - length.toNat)
      ∧ (b.profile ≠ 0 → filled < length.toNat → (U.body h).tokens = filled)
      ∧ (conforms → (U.body h).exceeds = b.exceeds)
      ∧ (¬ conforms → (U.body h).exceeds = min 4294967295 (b.exceeds + 1))
      ∧ U.counts = T.counts ∧ U.learned = T.learned ∧ U.closed = T.closed ∧ U.holdQ = T.holdQ
      ∧ (b.leaseInterval = 0 → U.expiryQ = T.expiryQ)
      ∧ (0 < b.leaseInterval → ∀ k, queueTime k U.expiryQ = if k = h then some deadline else queueTime k T.expiryQ)

/-- A LOOKUP that hits a HELD record is answered HELD with what remains of the hold, and changes nothing; one that hits a
PROVISIONAL record is answered PROVISIONAL and counted, and nothing else changes; one that hits a CLOSING record is answered
CLOSED with its close reason, and changes nothing (R83, R84, R79, R90). -/
def Obligations.LookupHitOnOtherRecords : Prop :=
  ∀ (s : State) (c : Fin 4) (tag flag : Byte) (d : Fin 16) (length : BitVec 16) (key : Key) (T : FlowTable) (h : Nat),
    s.nextGrant = some (.lc c) →
    (s.chan c).queue.head? = some { tag := tag, body := .lookup (BitVec.ofNat 8 d.val) flag length key, bad := none } →
    s.domains[d].enabled = true → s.table.search s.seed d (key &&& s.domains[d].mask) = (T, some h) →
    let b := T.body h
    let result : Verdict → ServiceResult := fun v =>
      { verdict := v, handle := h, generation := (T.dir h).generation, cls := b.cls, state := (T.dir h).state }
    (∀ w, (T.dir h).state = .held → b.holdEnd = some w →
      exec .lookup s = .next (s.grant (.lc c) T (.response
        { result .held with holdRemaining := w - s.timer.timeBase })))
    ∧ ((T.dir h).state = .provisional →
      ∃ U, exec .lookup s = .next (s.grant (.lc c) U (.response (result .provisional)))
        ∧ U.dir h = T.dir h ∧ U.bad h = T.bad h ∧ FlowTable.OthersKept T U h ∧ FlowTable.ListsKept T U
        ∧ U.body h = { b with
            packets := min 1099511627775 (b.packets + 1)
            bytes := min 281474976710655 (b.bytes + length.toNat) })
    ∧ ((T.dir h).state = .closing →
      ((T.dir h).closeReason = some .retired →
        exec .lookup s = .next (s.grant (.lc c) T (.response { result .closed with reason := .retired })))
      ∧ ((T.dir h).closeReason = some .idle →
        exec .lookup s = .next (s.grant (.lc c) T (.response { result .closed with reason := .idle })))
      ∧ ((T.dir h).closeReason = some .swept →
        exec .lookup s = .next (s.grant (.lc c) T (.response { result .closed with reason := .swept }))))

/-- A LOOKUP whose search misses: MISS LEARN_OFF without the flag or with learning off; MISS QUOTA when the count is not below the
quota; MISS FULL when placement finds no slot; in each the table stays as the search left it. Else the record is created in the
slot that placement chose: PROVISIONAL with the provisional timeout in CONFIRM mode, LEARNED CONFORM; ACTIVE with the learn profile
and lease in AUTO mode, its first packet metered and counted, LEARNED with the meter verdict (R85, R86, R88, R13, R14, R44). -/
def Obligations.LookupMissLearnsOrSaysWhy : Prop :=
  ∀ (s : State) (c : Fin 4) (tag flag : Byte) (d : Fin 16) (length : BitVec 16) (key : Key) (T : FlowTable),
    let dom := s.domains[d]
    let k := key &&& dom.mask
    let now := s.timer.timeBase
    s.nextGrant = some (.lc c) →
    (s.chan c).queue.head? = some { tag := tag, body := .lookup (BitVec.ofNat 8 d.val) flag length key, bad := none } →
    dom.enabled = true → s.table.search s.seed d k = (T, none) →
    (flag ≠ 1#8 ∨ dom.learnMode = .off →
      exec .lookup s = .next (s.grant (.lc c) T (.response { verdict := .miss, reason := .learnOff })))
    ∧ (flag = 1#8 → dom.learnMode ≠ .off → dom.quota ≤ T.count d →
      exec .lookup s = .next (s.grant (.lc c) T (.response { verdict := .miss, reason := .quota })))
    ∧ (flag = 1#8 → dom.learnMode ≠ .off → T.count d < dom.quota → T.placement (bucket s.seed d k) = none →
      exec .lookup s = .next (s.grant (.lc c) T (.response { verdict := .miss, reason := .full })))
    ∧ (∀ h, flag = 1#8 → dom.learnMode = .confirm → T.count d < dom.quota → T.placement (bucket s.seed d k) = some h →
      exec .lookup s = .next (s.grant (.lc c)
        (T.create h .provisional d
          { key := k, cls := dom.learnClass, profile := 0, pinned := false, leaseInterval := 0,
            deadline := some (min 281474976710655 (now + dom.timeout)), holdEnd := none, tokens := 0, meterTime := now,
            packets := 1, bytes := length.toNat, exceeds := 0, origin := .lc c, created := now, reported := some false })
        (.response
          { verdict := .learned, reason := .conform, handle := h, generation := (T.dir h).generation,
            cls := dom.learnClass, state := .provisional })))
    ∧ (∀ h, flag = 1#8 → dom.learnMode = .auto → T.count d < dom.quota → T.placement (bucket s.seed d k) = some h →
      length.toNat ≤ 16383 →
      let burst := s.profiles[dom.learnProfile].burst
      let conforms := decide (dom.learnProfile = 0 ∨ length.toNat ≤ burst)
      exec .lookup s = .next (s.grant (.lc c)
        (T.create h .active d
          { key := k, cls := dom.learnClass, profile := dom.learnProfile, pinned := false, leaseInterval := dom.learnLease,
            deadline := if 0 < dom.learnLease then some (min 281474976710655 (now + dom.learnLease)) else none,
            holdEnd := none
            tokens := if dom.learnProfile = 0 then 0 else if conforms then burst - length.toNat else burst
            meterTime := now, packets := 1, bytes := length.toNat, exceeds := if conforms then 0 else 1,
            origin := .lc c, created := now, reported := none })
        (.response
          { verdict := .learned, reason := if conforms then .conform else .exceed, handle := h,
            generation := (T.dir h).generation, cls := dom.learnClass, state := .active })))

/-- A PEEK is answered FOUND with the record's reference, class, state and, when HELD, what remains of its hold, or MISS; it changes
nothing but what its search damaged. A LOOKUP or PEEK of a disabled domain is answered DOMAIN_OFF, nothing searched (R91, R41). -/
def Obligations.PeekReportsAndChangesNothing : Prop :=
  ∀ (s : State) (c : Fin 4) (tag flag : Byte) (d : Fin 16) (length : BitVec 16) (key : Key),
    s.nextGrant = some (.lc c) →
    ((s.chan c).queue.head? = some { tag := tag, body := .peek (BitVec.ofNat 8 d.val) key, bad := none } →
      (s.domains[d].enabled = true →
        (∀ (T : FlowTable) (h : Nat), s.table.search s.seed d (key &&& s.domains[d].mask) = (T, some h) →
          ∃ n, exec .peek s = .next (s.grant (.lc c) T (.response
              { verdict := .found, handle := h, generation := (T.dir h).generation, cls := (T.body h).cls,
                state := (T.dir h).state, holdRemaining := n }))
            ∧ ((T.dir h).state ≠ .held → n = 0)
            ∧ (∀ w, (T.dir h).state = .held → (T.body h).holdEnd = some w → n = w - s.timer.timeBase))
        ∧ (∀ T : FlowTable, s.table.search s.seed d (key &&& s.domains[d].mask) = (T, none) →
          exec .peek s = .next (s.grant (.lc c) T (.response { verdict := .miss }))))
      ∧ (s.domains[d].enabled = false →
        exec .peek s = .next (s.grant (.lc c) s.table (.response { verdict := .domainOff }))))
    ∧ ((s.chan c).queue.head? = some { tag := tag, body := .lookup (BitVec.ofNat 8 d.val) flag length key, bad := none } →
      s.domains[d].enabled = false →
        exec .lookup s = .next (s.grant (.lc c) s.table (.response { verdict := .domainOff })))

/-- A HOLD request: STALE with the reference alone; REFUSED with the state of a PROVISIONAL or CLOSING record; REFUSED with state
CLOSING when its body read finds damage; else the hold rule with its ticks, ACCEPTED with the state it leaves and, when HELD, what
remains of the hold (R93, R94, R36, R7, R79). -/
def Obligations.HoldRequestIsApplied : Prop :=
  ∀ (s : State) (c : Fin 4) (tag generation : Byte) (handle ticks : BitVec 16),
    s.nextGrant = some (.lc c) →
    (s.chan c).queue.head? = some { tag := tag, body := .hold handle generation ticks, bad := none } →
    let h := handle.toNat
    let t := s.table
    let now := s.timer.timeBase
    let answer : FlowTable → ServiceResult → Prop := fun U r =>
      exec .holdRequest s = .next (s.grant (.lc c) U (.response { r with handle := h, generation := generation }))
    (¬ t.Current h generation → answer t { verdict := .stale })
    ∧ (t.Current h generation → (t.dir h).state = .provisional ∨ (t.dir h).state = .closing →
      answer t { verdict := .refused, state := (t.dir h).state })
    ∧ (t.Current h generation → (t.dir h).state = .active ∨ (t.dir h).state = .held → t.bad h = true →
      answer (t.damage h) { verdict := .refused, state := .closing })
    ∧ (t.Current h generation → (t.dir h).state = .active ∨ (t.dir h).state = .held → t.bad h = false →
      (0 < ticks.toNat → answer (t.holdRule h now ticks.toNat)
        { verdict := .accepted, cls := (t.body h).cls, state := .held,
          holdRemaining := min 281474976710655 (now + ticks.toNat) - now })
      ∧ (ticks.toNat = 0 → answer (t.holdRule h now 0)
        { verdict := .accepted, cls := (t.body h).cls, state := .active }))

/-! ### The lease timer (sections 6.3 to 6.7) -/

/-- An expiry is taken when its slot stands in the expiry queue at or below now: damage when the body read finds an error, else an
ACTIVE record is closed as IDLE or, under auto-release, freed, and a PROVISIONAL record is freed. A hold end is taken when its slot
is HELD with a hold end at or below now: damage, or release as a hold of 0 ticks does. One not taken changes nothing (R108, R109,
R110, R117, R37, R43). -/
def Obligations.ExpiryAndHoldEndAtTheTable : Prop :=
  ∀ (s : State) (h : Nat), s.nextGrant = some .lt →
    let t := s.table
    let now := s.timer.timeBase
    (s.timer.waiting = some (.expiry, h) →
      ((∀ w, queueTime h t.expiryQ = some w → now < w) → exec .expiry s = .next (s.grant .lt t .timer))
      ∧ (∀ w, queueTime h t.expiryQ = some w → w ≤ now →
        (t.bad h = true → exec .expiry s = .next (s.grant .lt (t.damage h) .timer))
        ∧ (t.bad h = false → (t.dir h).state = .active →
          exec .expiry s = .next (s.grant .lt (t.close h .idle s.domains[(t.dir h).domain].autoRelease) .timer))
        ∧ (t.bad h = false → (t.dir h).state = .provisional →
          exec .expiry s = .next (s.grant .lt (t.free h) .timer))))
    ∧ (s.timer.waiting = some (.holdEnd, h) →
      ((t.dir h).state ≠ .held ∨ (∀ w, queueTime h t.holdQ = some w → now < w) →
        exec .holdEnd s = .next (s.grant .lt t .timer))
      ∧ (∀ w, (t.dir h).state = .held → queueTime h t.holdQ = some w → w ≤ now →
        (t.bad h = true → exec .holdEnd s = .next (s.grant .lt (t.damage h) .timer))
        ∧ (t.bad h = false → exec .holdEnd s = .next (s.grant .lt (t.holdRule h now 0) .timer))))

/-- The LT presents, while it has nothing outstanding, the first entry of either queue in the combined order of time and handle,
when that entry is due; with something outstanding, or with nothing due, it presents nothing. It presents when an entry falls due
and at the end of its own operation, on the queues as the outside sees them then (R106, R107, R31). That it does so in these three
rows only is the model's reading (log entry 7). -/
def Obligations.TimerPresentsTheFirstDueEntry : Prop :=
  ∀ (s : State) (op : TimerOp) (w h : Nat),
    let first : FlowTable → Prop := fun t =>
      let queue : TimerOp → List (Nat × Nat) := fun x => match x with
        | .expiry => t.expiryQ
        | .holdEnd => t.holdQ
      QueueInv t.expiryQ ∧ QueueInv t.holdQ ∧ (w, h) ∈ queue op ∧ w ≤ s.timer.timeBase
      ∧ ∀ op' w' h', (w', h') ∈ queue op' → (op' = op ∧ w' = w ∧ h' = h) ∨ w < w' ∨ (w = w' ∧ h < h')
    let due : List (Nat × Nat) → Prop := fun q => ∃ p ∈ q, p.1 ≤ s.timer.timeBase
    (s.timer.waiting = none → s.atTable .lt = false → first s.seen →
      let t : State := { s with timer := { s.timer with waiting := some (op, h) } }
      (due s.seen.expiryQ → exec .deadlineDue s = .next t) ∧ (due s.seen.holdQ → exec .holdEndDue s = .next t))
    ∧ (s.timer.waiting.isSome ∨ s.atTable .lt = true →
      exec .deadlineDue s = .next s ∧ exec .holdEndDue s = .next s)
    ∧ (QueueInv s.seen.expiryQ → ¬ due s.seen.expiryQ → exec .deadlineDue s = .next s)
    ∧ (QueueInv s.seen.holdQ → ¬ due s.seen.holdQ → exec .holdEndDue s = .next s)
    ∧ (s.timer.waiting = none → s.atTable .lt = true →
      (first s.table → exec .ltOperationEnd s =
        .next { s with opAtTable := none, timer := { s.timer with waiting := some (op, h) } })
      ∧ (QueueInv s.table.expiryQ → QueueInv s.table.holdQ → ¬ due s.table.expiryQ → ¬ due s.table.holdQ →
        exec .ltOperationEnd s = .next { s with opAtTable := none }))

/-! ### Sweep positions (sections 10.3 to 10.7) -/

/-- A position examines its four slots in handle order. FREE is passed over; any other is visited; one outside the state set or of
another domain stops there, without a body read; a body read that finds an error damages it; one that fails the class test stops
there; the rest match, and the action is taken on those not pinned and in the states it admits (R169, R170, R171, R172, R35). -/
def Obligations.SweepPositionExaminesFourSlots : Prop :=
  (∀ s : State, s.nextGrant = some .su →
    let c := s.sweep.cursor
    let f := sweepSlot s.sweep.params s.profiles s.domains s.timer.timeBase
    let out := f (f (f (f (s.table, { visited := 0, matched := 0, acted := 0 }) (4 * c)) (4 * c + 1)) (4 * c + 2)) (4 * c + 3)
    exec .sweepPosition s = .next (s.grant .su out.1 (.position out.2.visited out.2.matched out.2.acted)))
  ∧ ∀ (p : SweepParams) (profiles : Vector Profile 64) (domains : Vector DomainEntry 16) (now h v m a : Nat) (t : FlowTable),
    let e := t.dir h
    let b := t.body h
    let inSet : Prop := (e.state = .provisional ∧ p.onProvisional = true) ∨ (e.state = .active ∧ p.onActive = true)
      ∨ (e.state = .held ∧ p.onHeld = true)
    let chosen : Prop := inSet ∧ (p.selector = none ∨ p.selector = some e.domain)
    let sameClass : Prop := b.cls &&& p.classMask = p.classValue &&& p.classMask
    let out := sweepSlot p profiles domains now (t, { visited := v, matched := m, acted := a }) h
    let matched : FlowTable → Nat → Prop := fun u n => out = (u, { visited := v + 1, matched := m + 1, acted := a + n })
    (e.state = .free → out = (t, { visited := v, matched := m, acted := a }))
    ∧ (e.state ≠ .free → ¬ chosen → out = (t, { visited := v + 1, matched := m, acted := a }))
    ∧ (chosen → t.bad h = true → out = (t.damage h, { visited := v + 1, matched := m, acted := a }))
    ∧ (chosen → t.bad h = false → ¬ sameClass → out = (t, { visited := v + 1, matched := m, acted := a }))
    ∧ (chosen → t.bad h = false → sameClass →
      (p.action = .count → matched t 1)
      ∧ (p.action ≠ .count → b.pinned = true → matched t 0)
      ∧ (b.pinned = false →
        (p.action = .retire → e.state = .provisional → matched (t.free h) 1)
        ∧ (p.action = .retire → e.state ≠ .provisional → matched (t.close h .swept domains[e.domain].autoRelease) 1)
        ∧ (∀ c, p.action = .reclass c → e.state = .provisional → matched t 0)
        ∧ (∀ c, p.action = .reclass c → e.state ≠ .provisional →
          ∃ u, matched u 1 ∧ u.dir h = e ∧ u.bad h = false ∧ u.body h = { b with cls := c } ∧ FlowTable.OthersKept t u h
            ∧ FlowTable.ListsKept t u)
        ∧ (∀ q, p.action = .reprofile q → e.state = .provisional → matched t 0)
        ∧ (∀ q, p.action = .reprofile q → e.state ≠ .provisional →
          ∃ u, matched u 1 ∧ u.dir h = e ∧ u.bad h = false
            ∧ u.body h = { b with
                profile := q, tokens := if q = 0 then 0 else profiles[q].burst, meterTime := now }
            ∧ FlowTable.OthersKept t u h ∧ FlowTable.ListsKept t u)
        ∧ (p.action = .release → e.state ≠ .held → matched t 0)
        ∧ (p.action = .release → e.state = .held → matched (t.holdRule h now 0) 1)))

/-- The end of a position adds its counts and advances the cursor. RUNNING then presents the next position, or, past the last, ends
the walk and completes the pending SWEEP OK; SUSPENDING completes the SWEEP_SUSPEND OK in SUSPENDED, or, past the last, the SWEEP OK
and the SWEEP_SUSPEND NOT_RUNNING; ABORTING completes a pending SWEEP_SUSPEND and the SWEEP ABORTED and the SWEEP_ABORT OK. A
position whose result is discarded adds nothing; in IDLE it just ends, and a walk that was accepted meanwhile, be it RUNNING,
SUSPENDING or ABORTING, then presents its position 0 (R169, R174, R175, R177, R178, R167). -/
def Obligations.SweepPositionEndMovesTheWalk : Prop :=
  ∀ (s : State) (before : FlowTable) (v m a : Nat) (discarded : Bool),
    s.opAtTable = some { requester := .su, before := before, abandoned := discarded, outcome := .position v m a } →
    let w := s.sweep
    let moved : SweepState → Sweep := fun x => { w with
      state := x, cursor := w.cursor + 1, visited := w.visited + v, matched := w.matched + m, acted := w.acted + a }
    let fields : SweepState → Results := fun x =>
      .sweep x (w.cursor + 1) (w.visited + v) (w.matched + m) (w.acted + a)
    let base : Sweep → State := fun x => { s with opAtTable := none, sweep := x }
    (discarded = false → w.state = .running → w.cursor + 1 < 2064 →
      exec .sweepPositionEnd s = .next (base { moved .running with presented := true }))
    ∧ (∀ tag, discarded = false → w.state = .running → 2064 ≤ w.cursor + 1 → w.pendingSweep = some tag →
      exec .sweepPositionEnd s = .next ((base { moved .idle with pendingSweep := none }).post tag 20#8 .ok (fields .idle)))
    ∧ (∀ tag, discarded = false → w.state = .suspending → w.cursor + 1 < 2064 → w.pendingSuspend = some tag →
      exec .sweepPositionEnd s = .next
        ((base { moved .suspended with pendingSuspend := none }).post tag 21#8 .ok (fields .suspended)))
    ∧ (∀ tag tag', discarded = false → w.state = .suspending → 2064 ≤ w.cursor + 1 → w.pendingSweep = some tag →
      w.pendingSuspend = some tag' →
      exec .sweepPositionEnd s = .next
        (((base { moved .idle with pendingSweep := none, pendingSuspend := none }).post tag 20#8 .ok
          (fields .idle)).post tag' 21#8 .notRunning (fields .idle)))
    ∧ (∀ tag e, discarded = false → w.state = .aborting → w.pendingSweep = some tag → s.inExec = some e →
      (w.pendingSuspend = none →
        exec .sweepPositionEnd s = .next { ((base { moved .idle with pendingSweep := none }).post tag 20#8 .aborted
          (fields .idle)).post (tagOf e.desc) (kindOf e.desc) .ok (fields .idle) with inExec := none })
      ∧ (∀ tag', w.pendingSuspend = some tag' →
        exec .sweepPositionEnd s = .next { (((base { moved .idle with pendingSweep := none, pendingSuspend := none }).post
          tag' 21#8 .aborted (fields .idle)).post tag 20#8 .aborted (fields .idle)).post (tagOf e.desc) (kindOf e.desc) .ok
            (fields .idle) with inExec := none }))
    ∧ (discarded = true → w.state = .idle → exec .sweepPositionEnd s = .next (base w))
    ∧ (discarded = true → w.state = .running ∨ w.state = .suspending ∨ w.state = .aborting →
      exec .sweepPositionEnd s = .next (base { w with presented := true }))

/-! ### Commands at the table (chapters 3, 7 and 9) -/

/-- The six commands that name a record and test its state (HOLD, CONFIRM, REJECT, RETIRE, MODIFY, COLLECT) test in this order: a
reference that is not current completes STALE with state 0; a state not admitted completes WRONG_STATE with the state; a body read
that finds an error damages the record and completes DAMAGED with state CLOSING; each with the reference as given and nothing else
changed (R7, R36, R116, R126, R128, R131, R162, R164). The state field of a refused REJECT and RETIRE is the model's reading (log
entry 13). -/
def Obligations.ReferenceTestsRunInOrder : Prop :=
  ∀ (s : State) (d : Descriptor) (i : Instr) (k : Byte) (admits : List RecState),
    (i, k, admits) ∈ referenceCommands → s.AtGrant k d →
    let h := fieldAt d 4 2
    let g := BitVec.ofNat 8 (fieldAt d 6 1)
    let t := s.table
    let ends : FlowTable → Status → RecState → Prop := fun U st x =>
      exec i s = .next (s.grant .cp U (.completion st (.record { handle := h, generation := g, state := x })))
    (¬ t.Current h g → ends t .stale .free)
    ∧ (t.Current h g → (t.dir h).state ∉ admits → ends t .wrongState (t.dir h).state)
    ∧ (t.Current h g → (t.dir h).state ∈ admits → t.bad h = true → ends (t.damage h) .damaged .closing)

/-- On a current reference to a record in a state it admits, with a sound body, HOLD applies the hold rule; CONFIRM makes the record
ACTIVE with the command's class, profile, lease interval and pinned setting, its tokens at the burst, its deadline armed or absent,
off the learned list; MODIFY changes exactly the fields selected; COLLECT returns the three counters and clears them; each completes
OK with the reference, the state, and the deadline or hold end it left (R116, R126, R162, R164, R53, R105, R120). -/
def Obligations.HoldConfirmModifyCollectComplete : Prop :=
  ∀ (s : State) (d : Descriptor) (cls : Byte) (p : Fin 64),
    let f := fieldAt d
    let h := f 4 2
    let g := BitVec.ofNat 8 (f 6 1)
    let t := s.table
    let b := t.body h
    let now := s.timer.timeBase
    let lease := f 12 4
    let armed : Option Nat := if 0 < lease then some (min 281474976710655 (now + lease)) else none
    let tokens : Nat := if p = 0 then 0 else s.profiles[p].burst
    let live : Prop := (t.dir h).state = .active ∨ (t.dir h).state = .held
    t.Current h g → t.bad h = false →
    (s.AtGrant 9#8 d → live →
      exec .holdCommandOperation s = .next (s.grant .cp (t.holdRule h now (f 8 4)) (.completion .ok (.record
        { handle := h, generation := g, state := if 0 < f 8 4 then .held else .active,
          timer := ((t.holdRule h now (f 8 4)).body h).timerGiven }))))
    ∧ (s.AtGrant 11#8 d → (t.dir h).state = .provisional → f 8 2 = cls.toNat → f 10 1 = p.val →
      ∃ U, exec .confirmOperation s = .next (s.grant .cp U (.completion .ok (.record
          { handle := h, generation := g, state := .active, timer := (U.body h).timerGiven })))
        ∧ U.dir h = { t.dir h with state := .active } ∧ U.bad h = false ∧ FlowTable.OthersKept t U h
        ∧ U.body h = { b with
            cls := cls, profile := p, tokens := tokens, meterTime := now, leaseInterval := lease,
            pinned := decide (f 11 1 = 1), deadline := armed, reported := none }
        ∧ U.counts = t.counts ∧ U.learned = t.learned.filter (· ≠ h) ∧ U.closed = t.closed ∧ U.holdQ = t.holdQ
        ∧ (∀ k, queueTime k U.expiryQ = if k = h then armed else queueTime k t.expiryQ))
    ∧ (s.AtGrant 18#8 d → live →
      let on : Nat → Bool := fun i => (f 16 1).testBit i
      (on 0 = true → f 8 2 = cls.toNat) → (on 1 = true → f 10 1 = p.val) →
      ∃ U, exec .modifyOperation s = .next (s.grant .cp U (.completion .ok (.record
          { handle := h, generation := g, state := (t.dir h).state, timer := (U.body h).timerGiven })))
        ∧ U.dir h = t.dir h ∧ U.bad h = false ∧ FlowTable.OthersKept t U h
        ∧ U.body h = { b with
            cls := if on 0 then cls else b.cls
            profile := if on 1 then p else b.profile
            tokens := if on 1 then tokens else b.tokens
            meterTime := if on 1 then now else b.meterTime
            leaseInterval := if on 2 then lease else b.leaseInterval
            pinned := if on 3 then decide (f 11 1 = 1) else b.pinned
            deadline := if on 2 ∧ (t.dir h).state = .active then armed else b.deadline }
        ∧ U.counts = t.counts ∧ U.learned = t.learned ∧ U.closed = t.closed ∧ U.holdQ = t.holdQ
        ∧ (on 2 = true → (t.dir h).state = .active →
            ∀ k, queueTime k U.expiryQ = if k = h then armed else queueTime k t.expiryQ)
        ∧ (on 2 = false ∨ (t.dir h).state = .held → U.expiryQ = t.expiryQ))
    ∧ (s.AtGrant 19#8 d → live ∨ (t.dir h).state = .provisional →
      ∃ U, exec .collectOperation s = .next (s.grant .cp U (.completion .ok (.record
          { handle := h, generation := g, state := (t.dir h).state, packets := b.packets, bytes := b.bytes,
            exceeds := b.exceeds, meterTime := now })))
        ∧ U.dir h = t.dir h ∧ U.bad h = false ∧ U.body h = { b with packets := 0, bytes := 0, exceeds := 0 }
        ∧ FlowTable.OthersKept t U h ∧ FlowTable.ListsKept t U)

/-- REJECT frees the record and returns its image as it stood; RETIRE closes it as RETIRED, or frees it and returns the image under
auto-release. FETCH_LEARNED takes the head of the learned list, marks it reported and returns its image, or reports the damage its
read found; FETCH_CLOSED frees the head of the closed list and returns its image as it stood, or, of a damaged record, its exact
directory fields and body fields that nothing constrains, marked unreliable; an empty list completes EMPTY (R128, R131, R132, R123,
R135, R136, R17). The unconstrained fields are a free value of the model (log entry 9). -/
def Obligations.RecordsAreHandedToTheHost : Prop :=
  ∀ (s : State) (d : Descriptor),
    let t := s.table
    (∀ h g, h = fieldAt d 4 2 → g = BitVec.ofNat 8 (fieldAt d 6 1) → t.Current h g → t.bad h = false →
      (s.AtGrant 12#8 d → (t.dir h).state = .provisional →
        exec .rejectOperation s = .next (s.grant .cp (t.free h) (.completion .ok (.record ((t.slot h).wholeImage h)))))
      ∧ (s.AtGrant 13#8 d → (t.dir h).state = .active ∨ (t.dir h).state = .held →
        (s.domains[(t.dir h).domain].autoRelease = false →
          exec .retireOperation s = .next (s.grant .cp (t.close h .retired false)
            (.completion .ok (.record { handle := h, generation := g, state := .closing }))))
        ∧ (s.domains[(t.dir h).domain].autoRelease = true →
          exec .retireOperation s = .next (s.grant .cp (t.free h)
            (.completion .ok (.record ((t.slot h).wholeImage h)))))))
    ∧ (s.AtGrant 10#8 d →
      (t.learned = [] → exec .fetchLearnedOperation s = .next (s.grant .cp t (.completion .empty .none)))
      ∧ (∀ h l, t.learned = h :: l →
        (t.bad h = true → exec .fetchLearnedOperation s = .next (s.grant .cp (t.damage h) (.completion .damaged (.record
          { handle := h, generation := (t.dir h).generation, state := .closing, domain := (t.dir h).domain.val }))))
        ∧ (t.bad h = false → ∃ U, exec .fetchLearnedOperation s =
            .next (s.grant .cp U (.completion .ok (.record ((U.slot h).wholeImage h))))
          ∧ U.dir h = t.dir h ∧ U.bad h = false ∧ U.body h = { t.body h with reported := some true }
          ∧ FlowTable.OthersKept t U h ∧ U.learned = (h :: l).filter (· ≠ h) ∧ U.counts = t.counts ∧ U.closed = t.closed
          ∧ U.expiryQ = t.expiryQ ∧ U.holdQ = t.holdQ)))
    ∧ (s.AtGrant 14#8 d →
      (t.closed = [] → exec .fetchClosedOperation s = .next (s.grant .cp t (.completion .empty .none)))
      ∧ (∀ h l, t.closed = h :: l →
        (t.bad h = false → ¬ ((t.dir h).state = .closing ∧ (t.dir h).closeReason = some .damaged) →
          exec .fetchClosedOperation s = .next (s.grant .cp (t.free h)
            (.completion .ok (.record ((t.slot h).wholeImage h)))))
        ∧ (t.bad h = true ∨ ((t.dir h).state = .closing ∧ (t.dir h).closeReason = some .damaged) →
          ∃ raw : Config.RawBody, exec .fetchClosedOperation s =
            .next ({ s with freeCount := s.freeCount + 1 }.grant .cp (t.free h) (.completion .ok (.record
              { handle := h, generation := (t.dir h).generation, state := .closing, timer := .closeReason .damaged,
                origin := raw.origin.toNat, domain := (t.dir h).domain.val, profile := raw.profile.toNat, cls := raw.cls,
                leaseInterval := raw.leaseInterval.toNat, tokens := raw.tokens.toNat, key := raw.key,
                meterTime := raw.meterTime.toNat, created := raw.created.toNat, packets := raw.packets.toNat,
                bytes := raw.bytes.toNat, exceeds := raw.exceeds.toNat, reliable := false, pinned := raw.pinned }))))))

/-- INSERT: DOMAIN_OFF in a disabled domain; EXISTS with the record its search found; QUOTA with the domain's quota and count; FULL
when placement finds no slot; else the ACTIVE record is created with the command's fields and origin HOST, OK. FIND: the reference,
class and state of the record found, with its close reason, or NOT_FOUND. QUERY: STALE, DAMAGED with the directory fields, or OK
with the whole image, nothing changed but by the damage a body read finds (R156, R157, R159, R160, R14, R35, R41). -/
def Obligations.InsertFindQueryComplete : Prop :=
  ∀ (s : State) (d : Descriptor) (n : Fin 16) (T : FlowTable),
    let f := fieldAt d
    let now := s.timer.timeBase
    let dom := s.domains[n]
    let k : Key := BitVec.ofNat 128 (f 16 16) &&& dom.mask
    (s.AtGrant 15#8 d → f 4 1 = n.val →
      (dom.enabled = false →
        exec .insertOperation s = .next (s.grant .cp s.table (.completion .domainOff (.record { domain := n.val }))))
      ∧ (∀ h, dom.enabled = true → s.table.search s.seed n k = (T, some h) →
        exec .insertOperation s = .next (s.grant .cp T (.completion .exists (.record
          { handle := h, generation := (T.dir h).generation, state := (T.dir h).state, domain := n.val,
            timer := (T.dir h).reasonGiven }))))
      ∧ (dom.enabled = true → s.table.search s.seed n k = (T, none) → dom.quota ≤ T.count n →
        exec .insertOperation s = .next (s.grant .cp T (.completion .quota (.insertQuota n dom.quota (T.count n)))))
      ∧ (dom.enabled = true → s.table.search s.seed n k = (T, none) → T.count n < dom.quota →
        T.placement (bucket s.seed n k) = none →
        exec .insertOperation s = .next (s.grant .cp T (.completion .full (.record { domain := n.val }))))
      ∧ (∀ (h : Nat) (cls : Byte) (p : Fin 64), dom.enabled = true → s.table.search s.seed n k = (T, none) →
        T.count n < dom.quota → T.placement (bucket s.seed n k) = some h → f 8 2 = cls.toNat → f 10 1 = p.val →
        let armed : Option Nat := if 0 < f 12 4 then some (min 281474976710655 (now + f 12 4)) else none
        let b : Body :=
          { key := k, cls := cls, profile := p, pinned := decide (f 11 1 = 1), leaseInterval := f 12 4, deadline := armed,
            holdEnd := none, tokens := if p = 0 then 0 else s.profiles[p].burst, meterTime := now, packets := 0, bytes := 0,
            exceeds := 0, origin := .host, created := now, reported := none }
        exec .insertOperation s = .next (s.grant .cp (T.create h .active n b) (.completion .ok (.record
          { handle := h, generation := (T.dir h).generation, state := .active, domain := n.val, timer := b.timerGiven })))))
    ∧ (s.AtGrant 16#8 d → f 4 1 = n.val →
      (∀ h, s.table.search s.seed n k = (T, some h) →
        exec .findOperation s = .next (s.grant .cp T (.completion .ok (.record
          { handle := h, generation := (T.dir h).generation, state := (T.dir h).state, cls := (T.body h).cls,
            timer := (T.dir h).reasonGiven }))))
      ∧ (s.table.search s.seed n k = (T, none) →
        exec .findOperation s = .next (s.grant .cp T (.completion .notFound .none))))
    ∧ (s.AtGrant 17#8 d →
      let t := s.table
      let h := f 4 2
      let g := BitVec.ofNat 8 (f 6 1)
      let damaged : Prop := (t.dir h).state = .closing ∧ (t.dir h).closeReason = some .damaged
      let lost : Results := .record
        { handle := h, generation := g, state := .closing, domain := (t.dir h).domain.val,
          timer := .closeReason .damaged }
      (¬ t.Current h g → exec .queryOperation s = .next (s.grant .cp t (.completion .stale (.record
        { handle := h, generation := g }))))
      ∧ (t.Current h g → damaged → exec .queryOperation s = .next (s.grant .cp t (.completion .damaged lost)))
      ∧ (t.Current h g → ¬ damaged → t.bad h = true →
        exec .queryOperation s = .next (s.grant .cp (t.damage h) (.completion .damaged lost)))
      ∧ (t.Current h g → ¬ damaged → t.bad h = false →
        exec .queryOperation s = .next (s.grant .cp t (.completion .ok (.record ((t.slot h).wholeImage h))))))

/-- SET_SEED takes the new seed when every slot is FREE, OK; else NOT_EMPTY with the seed as it stands. SET_DOMAIN: a mask that
changes while the domain holds records completes NOT_EMPTY, then a quota below the count completes QUOTA, each with the entry as it
stands; else the selected fields take their values all together, OK with the entry as it then stands (R22, R46, R45). -/
def Obligations.SeedAndDomainChangeWhenAllowed : Prop :=
  ∀ (s : State) (d : Descriptor), cellsWf Slot.powerOn s.table.slots →
    let f := fieldAt d
    (s.AtGrant 1#8 d →
      ((∀ h, (s.table.dir h).state = .free) →
        exec .setSeedOperation s = .next ({ s with seed := BitVec.ofNat 11 (f 4 2) }.grant .cp s.table
          (.completion .ok (.seed (BitVec.ofNat 11 (f 4 2))))))
      ∧ (∀ h, (s.table.dir h).state ≠ .free →
        exec .setSeedOperation s = .next (s.grant .cp s.table (.completion .notEmpty (.seed s.seed)))))
    ∧ (s.AtGrant 2#8 d → ∀ (n : Fin 16) (mode : LearnMode) (p : Fin 64), f 4 1 = n.val →
      let on : Nat → Bool := fun i => (f 8 2).testBit i
      let e := s.domains[n]
      let count := s.table.count n
      let mask : Key := if on 1 then BitVec.ofNat 128 (f 32 16) else e.mask
      (on 2 = true → f 5 1 = mode.code) → (on 4 = true → f 7 1 = p.val) →
      (mask ≠ e.mask → 0 < count →
        exec .setDomainOperation s = .next (s.grant .cp s.table (.completion .notEmpty (.domain n e count))))
      ∧ (mask = e.mask ∨ count = 0 → on 8 = true → f 14 2 < count →
        exec .setDomainOperation s = .next (s.grant .cp s.table (.completion .quota (.domain n e count))))
      ∧ (mask = e.mask ∨ count = 0 → on 8 = false ∨ count ≤ f 14 2 →
        let e' : DomainEntry :=
          { enabled := if on 0 then decide (f 16 1 = 1) else e.enabled
            mask := mask
            learnMode := if on 2 then mode else e.learnMode
            learnClass := if on 3 then BitVec.ofNat 8 (f 6 1) else e.learnClass
            learnProfile := if on 4 then p else e.learnProfile
            learnLease := if on 5 then f 10 2 else e.learnLease
            timeout := if on 6 then f 12 2 else e.timeout
            autoRelease := if on 7 then decide (f 17 1 = 1) else e.autoRelease
            quota := if on 8 then f 14 2 else e.quota }
        ∃ ds, exec .setDomainOperation s = .next ({ s with domains := ds }.grant .cp s.table
            (.completion .ok (.domain n e' count)))
          ∧ ∀ m : Fin 16, ds[m] = if m = n then e' else s.domains[m]))

/-- The end of a channel's operation: its result is the RESPONSE of the head, which leaves the queue; bad requests then at the head
are answered BAD_REQUEST; the next good one is presented; a drained channel answers what waits, closes and completes the pending
CLOSE. A result to be discarded is not sent and takes no request off the queue; the queue of a new opening, DRAINING again or not, is
then served the same way. The end of a command's operation posts its completion, unless a port reset discarded it (R63, R64, R65, R68, R147, R154). -/
def Obligations.OperationEndsDeliverTheirResults : Prop :=
  (∀ (s : State) (c : Fin 4) (before : FlowTable) (r : ServiceResult) (q : Request)
      (bads : List (Byte × RequestBody × Reason)) (good : List Request),
    let ch := s.chan c
    let qs := bads.map (fun b => { tag := b.1, body := b.2.1, bad := some b.2.2 : Request }) ++ good
    let answers : List OutFrame := OutFrame.response q.tag r ::
      bads.map (fun b => OutFrame.response b.1 { verdict := .badRequest, reason := b.2.2 })
    s.opAtTable = some { requester := .lc c, before := before, abandoned := false, outcome := .response r } →
    ch.queue = q :: qs → (∀ g ∈ good.head?, g.bad = none) →
    (ch.state = .opened ∨ ch.state = .draining → good ≠ [] →
      exec .channelOperationEnd s = .next ({ s with opAtTable := none }.setChan c { ch with
        queue := good, unanswered := ch.unanswered - 1 - bads.length, lane := ch.lane ++ answers, presented := true }))
    ∧ (ch.state = .opened → good = [] →
      exec .channelOperationEnd s = .next ({ s with opAtTable := none }.setChan c { ch with
        queue := [], unanswered := ch.unanswered - 1 - bads.length, lane := ch.lane ++ answers }))
    ∧ (∀ tag, ch.state = .draining → good = [] → ch.closePending = some tag →
      ch.unanswered = ch.queue.length + ch.waitingAnswers.length →
      exec .channelOperationEnd s = .next (({ s with opAtTable := none }.setChan c { ch with
        state := .disabled, queue := [], waitingAnswers := [], unanswered := 0, closePending := none
        lane := ch.lane ++ answers
          ++ ch.waitingAnswers.map (fun x => OutFrame.response x { verdict := .channelClosed, reason := .draining })
          ++ [OutFrame.closeNotice .host] }).post tag 6#8 .ok (.channel c.val 2 0 ch.faultReason.code 0))))
  ∧ (∀ (s : State) (c : Fin 4) (before : FlowTable) (r : ServiceResult) (bads : List (Byte × RequestBody × Reason))
      (good : List Request),
    let ch := s.chan c
    let answers : List OutFrame := bads.map (fun b => OutFrame.response b.1 { verdict := .badRequest, reason := b.2.2 })
    s.opAtTable = some { requester := .lc c, before := before, abandoned := true, outcome := .response r } →
    (ch.state = .disabled ∨ ch.state = .fault → exec .channelOperationEnd s = .next { s with opAtTable := none })
    ∧ (ch.queue = bads.map (fun b => { tag := b.1, body := b.2.1, bad := some b.2.2 : Request }) ++ good →
      (∀ g ∈ good.head?, g.bad = none) →
      (ch.state = .opened ∨ ch.state = .draining → good ≠ [] →
        exec .channelOperationEnd s = .next ({ s with opAtTable := none }.setChan c { ch with
          queue := good, unanswered := ch.unanswered - bads.length, lane := ch.lane ++ answers, presented := true }))
      ∧ (ch.state = .opened → good = [] →
        exec .channelOperationEnd s = .next ({ s with opAtTable := none }.setChan c { ch with
          queue := [], unanswered := ch.unanswered - bads.length, lane := ch.lane ++ answers }))
      ∧ (∀ tag, ch.state = .draining → good = [] → ch.closePending = some tag →
        ch.unanswered = ch.queue.length + ch.waitingAnswers.length →
        exec .channelOperationEnd s = .next (({ s with opAtTable := none }.setChan c { ch with
          state := .disabled, queue := [], waitingAnswers := [], unanswered := 0, closePending := none
          lane := ch.lane ++ answers
            ++ ch.waitingAnswers.map (fun x => OutFrame.response x { verdict := .channelClosed, reason := .draining })
            ++ [OutFrame.closeNotice .host] }).post tag 6#8 .ok (.channel c.val 2 0 ch.faultReason.code 0)))))
  ∧ (∀ (s : State) (before : FlowTable) (st : Status) (r : Results) (discarded : Bool),
    s.opAtTable = some { requester := .cp, before := before, abandoned := discarded, outcome := .completion st r } →
    (∀ e, discarded = false → s.inExec = some e →
      exec .commandOperationEnd s = .next ({ s with opAtTable := none, inExec := none }.post (tagOf e.desc)
        (kindOf e.desc) st r))
    ∧ (discarded = true → exec .commandOperationEnd s = .next { s with opAtTable := none }))
end

