-- ==== Sys2Proof/Laws/State.lean ====
section
/-! SUPPORT. One lemma per field per update: what every named update of the state and of the flow table leaves alone, and
what it writes. A proof rewrites with these and never unfolds a record update. -/

namespace Sys2Proof.Machine

variable (s : State) (t : FlowTable)

/-! ### State.setChan -/

@[simp] theorem State.setChan_port (c : Fin 4) (x : Channel) : (s.setChan c x).port = s.port := rfl
@[simp] theorem State.setChan_inExec (c : Fin 4) (x : Channel) : (s.setChan c x).inExec = s.inExec := rfl
@[simp] theorem State.setChan_seed (c : Fin 4) (x : Channel) : (s.setChan c x).seed = s.seed := rfl
@[simp] theorem State.setChan_domains (c : Fin 4) (x : Channel) : (s.setChan c x).domains = s.domains := rfl
@[simp] theorem State.setChan_profiles (c : Fin 4) (x : Channel) : (s.setChan c x).profiles = s.profiles := rfl
@[simp] theorem State.setChan_table (c : Fin 4) (x : Channel) : (s.setChan c x).table = s.table := rfl
@[simp] theorem State.setChan_lastGranted (c : Fin 4) (x : Channel) : (s.setChan c x).lastGranted = s.lastGranted := rfl
@[simp] theorem State.setChan_opAtTable (c : Fin 4) (x : Channel) : (s.setChan c x).opAtTable = s.opAtTable := rfl
@[simp] theorem State.setChan_timer (c : Fin 4) (x : Channel) : (s.setChan c x).timer = s.timer := rfl
@[simp] theorem State.setChan_sweep (c : Fin 4) (x : Channel) : (s.setChan c x).sweep = s.sweep := rfl
@[simp] theorem State.setChan_freeCount (c : Fin 4) (x : Channel) : (s.setChan c x).freeCount = s.freeCount := rfl
@[simp] theorem State.setChan_pending (c : Fin 4) (x : Channel) : (s.setChan c x).pending = s.pending := rfl

/-- A channel after a channel was written. -/
theorem State.setChan_chan (c c' : Fin 4) (x : Channel) :
    (s.setChan c x).chan c' = if c' = c then x else s.chan c' := by
  simp only [State.setChan, State.chan]
  split
  · rename_i h; subst h; simp
  · rename_i h
    have : c.val ≠ c'.val := fun e => h (Fin.ext e.symm)
    simp [this]

@[simp] theorem State.setChan_chan_same (c : Fin 4) (x : Channel) : (s.setChan c x).chan c = x := by
  simp [State.setChan_chan]

/-- Two writes of one channel are the later one. -/
@[simp] theorem State.setChan_setChan (c : Fin 4) (x y : Channel) : (s.setChan c x).setChan c y = s.setChan c y := by
  simp [State.setChan, Vector.set_set]

/-- Writing a channel back changes nothing. -/
@[simp] theorem State.setChan_self (c : Fin 4) : s.setChan c (s.chan c) = s := by
  simp [State.setChan, State.chan]

/-! ### State.latch -/

@[simp] theorem State.latch_inExec (b : Word) : (s.latch b).inExec = s.inExec := rfl
@[simp] theorem State.latch_seed (b : Word) : (s.latch b).seed = s.seed := rfl
@[simp] theorem State.latch_domains (b : Word) : (s.latch b).domains = s.domains := rfl
@[simp] theorem State.latch_profiles (b : Word) : (s.latch b).profiles = s.profiles := rfl
@[simp] theorem State.latch_chans (b : Word) : (s.latch b).chans = s.chans := rfl
@[simp] theorem State.latch_table (b : Word) : (s.latch b).table = s.table := rfl
@[simp] theorem State.latch_lastGranted (b : Word) : (s.latch b).lastGranted = s.lastGranted := rfl
@[simp] theorem State.latch_opAtTable (b : Word) : (s.latch b).opAtTable = s.opAtTable := rfl
@[simp] theorem State.latch_timer (b : Word) : (s.latch b).timer = s.timer := rfl
@[simp] theorem State.latch_sweep (b : Word) : (s.latch b).sweep = s.sweep := rfl
@[simp] theorem State.latch_freeCount (b : Word) : (s.latch b).freeCount = s.freeCount := rfl
@[simp] theorem State.latch_pending (b : Word) : (s.latch b).pending = s.pending := rfl
@[simp] theorem State.latch_port_ready (b : Word) : (s.latch b).port.ready = s.port.ready := rfl
@[simp] theorem State.latch_port_run (b : Word) : (s.latch b).port.run = s.port.run := rfl
@[simp] theorem State.latch_port_cmdProducer (b : Word) : (s.latch b).port.cmdProducer = s.port.cmdProducer := rfl
@[simp] theorem State.latch_port_cmdConsumer (b : Word) : (s.latch b).port.cmdConsumer = s.port.cmdConsumer := rfl
@[simp] theorem State.latch_port_cplProducer (b : Word) : (s.latch b).port.cplProducer = s.port.cplProducer := rfl
@[simp] theorem State.latch_port_cplConsumer (b : Word) : (s.latch b).port.cplConsumer = s.port.cplConsumer := rfl
@[simp] theorem State.latch_port_reservations (b : Word) : (s.latch b).port.reservations = s.port.reservations := rfl
@[simp] theorem State.latch_port_window (b : Word) : (s.latch b).port.window = s.port.window := rfl
@[simp] theorem State.latch_port_enables (b : Word) : (s.latch b).port.enables = s.port.enables := rfl
@[simp] theorem State.latch_port_snapshot (b : Word) : (s.latch b).port.snapshot = s.port.snapshot := rfl
@[simp] theorem State.latch_port_readData (b : Word) : (s.latch b).port.readData = s.port.readData := rfl
@[simp] theorem State.latch_port_latched (b : Word) : (s.latch b).port.latched = s.port.latched ||| b := rfl

@[simp] theorem State.latch_chan (b : Word) (c' : Fin 4) : (s.latch b).chan c' = s.chan c' := rfl
/-! ### State.unlatch -/

@[simp] theorem State.unlatch_inExec (b : Word) : (s.unlatch b).inExec = s.inExec := rfl
@[simp] theorem State.unlatch_seed (b : Word) : (s.unlatch b).seed = s.seed := rfl
@[simp] theorem State.unlatch_domains (b : Word) : (s.unlatch b).domains = s.domains := rfl
@[simp] theorem State.unlatch_profiles (b : Word) : (s.unlatch b).profiles = s.profiles := rfl
@[simp] theorem State.unlatch_chans (b : Word) : (s.unlatch b).chans = s.chans := rfl
@[simp] theorem State.unlatch_table (b : Word) : (s.unlatch b).table = s.table := rfl
@[simp] theorem State.unlatch_lastGranted (b : Word) : (s.unlatch b).lastGranted = s.lastGranted := rfl
@[simp] theorem State.unlatch_opAtTable (b : Word) : (s.unlatch b).opAtTable = s.opAtTable := rfl
@[simp] theorem State.unlatch_timer (b : Word) : (s.unlatch b).timer = s.timer := rfl
@[simp] theorem State.unlatch_sweep (b : Word) : (s.unlatch b).sweep = s.sweep := rfl
@[simp] theorem State.unlatch_freeCount (b : Word) : (s.unlatch b).freeCount = s.freeCount := rfl
@[simp] theorem State.unlatch_pending (b : Word) : (s.unlatch b).pending = s.pending := rfl
@[simp] theorem State.unlatch_port_ready (b : Word) : (s.unlatch b).port.ready = s.port.ready := rfl
@[simp] theorem State.unlatch_port_run (b : Word) : (s.unlatch b).port.run = s.port.run := rfl
@[simp] theorem State.unlatch_port_cmdProducer (b : Word) : (s.unlatch b).port.cmdProducer = s.port.cmdProducer := rfl
@[simp] theorem State.unlatch_port_cmdConsumer (b : Word) : (s.unlatch b).port.cmdConsumer = s.port.cmdConsumer := rfl
@[simp] theorem State.unlatch_port_cplProducer (b : Word) : (s.unlatch b).port.cplProducer = s.port.cplProducer := rfl
@[simp] theorem State.unlatch_port_cplConsumer (b : Word) : (s.unlatch b).port.cplConsumer = s.port.cplConsumer := rfl
@[simp] theorem State.unlatch_port_reservations (b : Word) : (s.unlatch b).port.reservations = s.port.reservations := rfl
@[simp] theorem State.unlatch_port_window (b : Word) : (s.unlatch b).port.window = s.port.window := rfl
@[simp] theorem State.unlatch_port_enables (b : Word) : (s.unlatch b).port.enables = s.port.enables := rfl
@[simp] theorem State.unlatch_port_snapshot (b : Word) : (s.unlatch b).port.snapshot = s.port.snapshot := rfl
@[simp] theorem State.unlatch_port_readData (b : Word) : (s.unlatch b).port.readData = s.port.readData := rfl
@[simp] theorem State.unlatch_port_latched (b : Word) : (s.unlatch b).port.latched = s.port.latched &&& ~~~b := rfl

@[simp] theorem State.unlatch_chan (b : Word) (c' : Fin 4) : (s.unlatch b).chan c' = s.chan c' := rfl
/-! ### State.leaveWait -/

@[simp] theorem State.leaveWait_port (r : Requester) : (s.leaveWait r).port = s.port := by cases r <;> rfl
@[simp] theorem State.leaveWait_seed (r : Requester) : (s.leaveWait r).seed = s.seed := by cases r <;> rfl
@[simp] theorem State.leaveWait_domains (r : Requester) : (s.leaveWait r).domains = s.domains := by cases r <;> rfl
@[simp] theorem State.leaveWait_profiles (r : Requester) : (s.leaveWait r).profiles = s.profiles := by cases r <;> rfl
@[simp] theorem State.leaveWait_table (r : Requester) : (s.leaveWait r).table = s.table := by cases r <;> rfl
@[simp] theorem State.leaveWait_lastGranted (r : Requester) : (s.leaveWait r).lastGranted = s.lastGranted := by cases r <;> rfl
@[simp] theorem State.leaveWait_opAtTable (r : Requester) : (s.leaveWait r).opAtTable = s.opAtTable := by cases r <;> rfl
@[simp] theorem State.leaveWait_freeCount (r : Requester) : (s.leaveWait r).freeCount = s.freeCount := by cases r <;> rfl
@[simp] theorem State.leaveWait_pending (r : Requester) : (s.leaveWait r).pending = s.pending := by cases r <;> rfl
@[simp] theorem State.leaveWait_timeBase (r : Requester) : (s.leaveWait r).timer.timeBase = s.timer.timeBase := by cases r <;> rfl

/-! ### State.grant -/

@[simp] theorem State.grant_port (r : Requester) (o : OpOutcome) : (s.grant r t o).port = s.port := by cases r <;> rfl
@[simp] theorem State.grant_seed (r : Requester) (o : OpOutcome) : (s.grant r t o).seed = s.seed := by cases r <;> rfl
@[simp] theorem State.grant_domains (r : Requester) (o : OpOutcome) : (s.grant r t o).domains = s.domains := by cases r <;> rfl
@[simp] theorem State.grant_profiles (r : Requester) (o : OpOutcome) : (s.grant r t o).profiles = s.profiles := by cases r <;> rfl
@[simp] theorem State.grant_freeCount (r : Requester) (o : OpOutcome) : (s.grant r t o).freeCount = s.freeCount := by cases r <;> rfl
@[simp] theorem State.grant_pending (r : Requester) (o : OpOutcome) : (s.grant r t o).pending = s.pending := by cases r <;> rfl
@[simp] theorem State.grant_table (r : Requester) (o : OpOutcome) : (s.grant r t o).table = t := rfl
@[simp] theorem State.grant_lastGranted (r : Requester) (o : OpOutcome) : (s.grant r t o).lastGranted = r := rfl
@[simp] theorem State.grant_opAtTable (r : Requester) (o : OpOutcome) : (s.grant r t o).opAtTable = some { requester := r, before := s.table, abandoned := false, outcome := o } := rfl
@[simp] theorem State.grant_timeBase (r : Requester) (o : OpOutcome) : (s.grant r t o).timer.timeBase = s.timer.timeBase := by cases r <;> rfl
@[simp] theorem State.grant_seen (r : Requester) (o : OpOutcome) : (s.grant r t o).seen = s.table := rfl

/-! ### State.endOp -/

@[simp] theorem State.endOp_port : (s.endOp).port = s.port := rfl
@[simp] theorem State.endOp_inExec : (s.endOp).inExec = s.inExec := rfl
@[simp] theorem State.endOp_seed : (s.endOp).seed = s.seed := rfl
@[simp] theorem State.endOp_domains : (s.endOp).domains = s.domains := rfl
@[simp] theorem State.endOp_profiles : (s.endOp).profiles = s.profiles := rfl
@[simp] theorem State.endOp_chans : (s.endOp).chans = s.chans := rfl
@[simp] theorem State.endOp_table : (s.endOp).table = s.table := rfl
@[simp] theorem State.endOp_lastGranted : (s.endOp).lastGranted = s.lastGranted := rfl
@[simp] theorem State.endOp_timer : (s.endOp).timer = s.timer := rfl
@[simp] theorem State.endOp_sweep : (s.endOp).sweep = s.sweep := rfl
@[simp] theorem State.endOp_freeCount : (s.endOp).freeCount = s.freeCount := rfl
@[simp] theorem State.endOp_pending : (s.endOp).pending = s.pending := rfl
@[simp] theorem State.endOp_opAtTable : s.endOp.opAtTable = none := rfl
@[simp] theorem State.endOp_seen : s.endOp.seen = s.table := rfl
@[simp] theorem State.endOp_atTable (r : Requester) : s.endOp.atTable r = false := rfl

@[simp] theorem State.endOp_chan (c' : Fin 4) : (s.endOp).chan c' = s.chan c' := rfl
/-! ### State.abandon -/

@[simp] theorem State.abandon_port (r : Requester) : (s.abandon r).port = s.port := by unfold State.abandon; split <;> (try split) <;> rfl
@[simp] theorem State.abandon_inExec (r : Requester) : (s.abandon r).inExec = s.inExec := by unfold State.abandon; split <;> (try split) <;> rfl
@[simp] theorem State.abandon_seed (r : Requester) : (s.abandon r).seed = s.seed := by unfold State.abandon; split <;> (try split) <;> rfl
@[simp] theorem State.abandon_domains (r : Requester) : (s.abandon r).domains = s.domains := by unfold State.abandon; split <;> (try split) <;> rfl
@[simp] theorem State.abandon_profiles (r : Requester) : (s.abandon r).profiles = s.profiles := by unfold State.abandon; split <;> (try split) <;> rfl
@[simp] theorem State.abandon_chans (r : Requester) : (s.abandon r).chans = s.chans := by unfold State.abandon; split <;> (try split) <;> rfl
@[simp] theorem State.abandon_table (r : Requester) : (s.abandon r).table = s.table := by unfold State.abandon; split <;> (try split) <;> rfl
@[simp] theorem State.abandon_lastGranted (r : Requester) : (s.abandon r).lastGranted = s.lastGranted := by unfold State.abandon; split <;> (try split) <;> rfl
@[simp] theorem State.abandon_timer (r : Requester) : (s.abandon r).timer = s.timer := by unfold State.abandon; split <;> (try split) <;> rfl
@[simp] theorem State.abandon_sweep (r : Requester) : (s.abandon r).sweep = s.sweep := by unfold State.abandon; split <;> (try split) <;> rfl
@[simp] theorem State.abandon_freeCount (r : Requester) : (s.abandon r).freeCount = s.freeCount := by unfold State.abandon; split <;> (try split) <;> rfl
@[simp] theorem State.abandon_pending (r : Requester) : (s.abandon r).pending = s.pending := by unfold State.abandon; split <;> (try split) <;> rfl

@[simp] theorem State.abandon_chan (r : Requester) (c' : Fin 4) : (s.abandon r).chan c' = s.chan c' := by unfold State.abandon; split <;> (try split) <;> rfl
/-! ### State.post -/

@[simp] theorem State.post_inExec (tag : BitVec 16) (kind : Byte) (st : Status) (r : Results) : (s.post tag kind st r).inExec = s.inExec := rfl
@[simp] theorem State.post_seed (tag : BitVec 16) (kind : Byte) (st : Status) (r : Results) : (s.post tag kind st r).seed = s.seed := rfl
@[simp] theorem State.post_domains (tag : BitVec 16) (kind : Byte) (st : Status) (r : Results) : (s.post tag kind st r).domains = s.domains := rfl
@[simp] theorem State.post_profiles (tag : BitVec 16) (kind : Byte) (st : Status) (r : Results) : (s.post tag kind st r).profiles = s.profiles := rfl
@[simp] theorem State.post_chans (tag : BitVec 16) (kind : Byte) (st : Status) (r : Results) : (s.post tag kind st r).chans = s.chans := rfl
@[simp] theorem State.post_table (tag : BitVec 16) (kind : Byte) (st : Status) (r : Results) : (s.post tag kind st r).table = s.table := rfl
@[simp] theorem State.post_lastGranted (tag : BitVec 16) (kind : Byte) (st : Status) (r : Results) : (s.post tag kind st r).lastGranted = s.lastGranted := rfl
@[simp] theorem State.post_opAtTable (tag : BitVec 16) (kind : Byte) (st : Status) (r : Results) : (s.post tag kind st r).opAtTable = s.opAtTable := rfl
@[simp] theorem State.post_timer (tag : BitVec 16) (kind : Byte) (st : Status) (r : Results) : (s.post tag kind st r).timer = s.timer := rfl
@[simp] theorem State.post_sweep (tag : BitVec 16) (kind : Byte) (st : Status) (r : Results) : (s.post tag kind st r).sweep = s.sweep := rfl
@[simp] theorem State.post_freeCount (tag : BitVec 16) (kind : Byte) (st : Status) (r : Results) : (s.post tag kind st r).freeCount = s.freeCount := rfl
@[simp] theorem State.post_pending (tag : BitVec 16) (kind : Byte) (st : Status) (r : Results) : (s.post tag kind st r).pending = s.pending := rfl
@[simp] theorem State.post_port_ready (tag : BitVec 16) (kind : Byte) (st : Status) (r : Results) : (s.post tag kind st r).port.ready = s.port.ready := rfl
@[simp] theorem State.post_port_run (tag : BitVec 16) (kind : Byte) (st : Status) (r : Results) : (s.post tag kind st r).port.run = s.port.run := rfl
@[simp] theorem State.post_port_cmdProducer (tag : BitVec 16) (kind : Byte) (st : Status) (r : Results) : (s.post tag kind st r).port.cmdProducer = s.port.cmdProducer := rfl
@[simp] theorem State.post_port_cmdConsumer (tag : BitVec 16) (kind : Byte) (st : Status) (r : Results) : (s.post tag kind st r).port.cmdConsumer = s.port.cmdConsumer := rfl
@[simp] theorem State.post_port_cplConsumer (tag : BitVec 16) (kind : Byte) (st : Status) (r : Results) : (s.post tag kind st r).port.cplConsumer = s.port.cplConsumer := rfl
@[simp] theorem State.post_port_latched (tag : BitVec 16) (kind : Byte) (st : Status) (r : Results) : (s.post tag kind st r).port.latched = s.port.latched := rfl
@[simp] theorem State.post_port_enables (tag : BitVec 16) (kind : Byte) (st : Status) (r : Results) : (s.post tag kind st r).port.enables = s.port.enables := rfl
@[simp] theorem State.post_port_snapshot (tag : BitVec 16) (kind : Byte) (st : Status) (r : Results) : (s.post tag kind st r).port.snapshot = s.port.snapshot := rfl
@[simp] theorem State.post_port_readData (tag : BitVec 16) (kind : Byte) (st : Status) (r : Results) : (s.post tag kind st r).port.readData = s.port.readData := rfl
@[simp] theorem State.post_port_cplProducer (tag : BitVec 16) (kind : Byte) (st : Status) (r : Results) : (s.post tag kind st r).port.cplProducer = (s.port.cplProducer + 1) % 64 := rfl
@[simp] theorem State.post_port_reservations (tag : BitVec 16) (kind : Byte) (st : Status) (r : Results) : (s.post tag kind st r).port.reservations = s.port.reservations - 1 := rfl
@[simp] theorem State.post_port_window (tag : BitVec 16) (kind : Byte) (st : Status) (r : Results) : (s.post tag kind st r).port.window =
    storeLE s.port.window (completionOffset s.port.cplProducer) 64 (completionBits tag kind st r) := rfl

@[simp] theorem State.post_chan (tag : BitVec 16) (kind : Byte) (st : Status) (r : Results) (c' : Fin 4) : (s.post tag kind st r).chan c' = s.chan c' := rfl
@[simp] theorem State.post_seen (tag : BitVec 16) (kind : Byte) (st : Status) (r : Results) : (s.post tag kind st r).seen = s.seen := rfl
@[simp] theorem State.post_atTable (tag : BitVec 16) (kind : Byte) (st : Status) (r : Results) (q : Requester) : (s.post tag kind st r).atTable q = s.atTable q := rfl

/-! ### State.complete -/

@[simp] theorem State.complete_seed (d : Descriptor) (st : Status) (r : Results) : (s.complete d st r).seed = s.seed := rfl
@[simp] theorem State.complete_domains (d : Descriptor) (st : Status) (r : Results) : (s.complete d st r).domains = s.domains := rfl
@[simp] theorem State.complete_profiles (d : Descriptor) (st : Status) (r : Results) : (s.complete d st r).profiles = s.profiles := rfl
@[simp] theorem State.complete_chans (d : Descriptor) (st : Status) (r : Results) : (s.complete d st r).chans = s.chans := rfl
@[simp] theorem State.complete_table (d : Descriptor) (st : Status) (r : Results) : (s.complete d st r).table = s.table := rfl
@[simp] theorem State.complete_lastGranted (d : Descriptor) (st : Status) (r : Results) : (s.complete d st r).lastGranted = s.lastGranted := rfl
@[simp] theorem State.complete_opAtTable (d : Descriptor) (st : Status) (r : Results) : (s.complete d st r).opAtTable = s.opAtTable := rfl
@[simp] theorem State.complete_timer (d : Descriptor) (st : Status) (r : Results) : (s.complete d st r).timer = s.timer := rfl
@[simp] theorem State.complete_sweep (d : Descriptor) (st : Status) (r : Results) : (s.complete d st r).sweep = s.sweep := rfl
@[simp] theorem State.complete_freeCount (d : Descriptor) (st : Status) (r : Results) : (s.complete d st r).freeCount = s.freeCount := rfl
@[simp] theorem State.complete_pending (d : Descriptor) (st : Status) (r : Results) : (s.complete d st r).pending = s.pending := rfl
@[simp] theorem State.complete_inExec (d : Descriptor) (st : Status) (r : Results) : (s.complete d st r).inExec = none := rfl
@[simp] theorem State.complete_port (d : Descriptor) (st : Status) (r : Results) : (s.complete d st r).port = (s.post (tagOf d) (kindOf d) st r).port := rfl

@[simp] theorem State.complete_chan (d : Descriptor) (st : Status) (r : Results) (c' : Fin 4) : (s.complete d st r).chan c' = s.chan c' := rfl
/-! ### State.taken -/

@[simp] theorem State.taken_seed : (s.taken).seed = s.seed := rfl
@[simp] theorem State.taken_domains : (s.taken).domains = s.domains := rfl
@[simp] theorem State.taken_profiles : (s.taken).profiles = s.profiles := rfl
@[simp] theorem State.taken_chans : (s.taken).chans = s.chans := rfl
@[simp] theorem State.taken_table : (s.taken).table = s.table := rfl
@[simp] theorem State.taken_lastGranted : (s.taken).lastGranted = s.lastGranted := rfl
@[simp] theorem State.taken_opAtTable : (s.taken).opAtTable = s.opAtTable := rfl
@[simp] theorem State.taken_timer : (s.taken).timer = s.timer := rfl
@[simp] theorem State.taken_sweep : (s.taken).sweep = s.sweep := rfl
@[simp] theorem State.taken_freeCount : (s.taken).freeCount = s.freeCount := rfl
@[simp] theorem State.taken_pending : (s.taken).pending = s.pending := rfl
@[simp] theorem State.taken_inExec : s.taken.inExec = some { desc := s.nextDescriptor, phase := .taken } := rfl
@[simp] theorem State.taken_port_ready : (s.taken).port.ready = s.port.ready := rfl
@[simp] theorem State.taken_port_run : (s.taken).port.run = s.port.run := rfl
@[simp] theorem State.taken_port_cmdProducer : (s.taken).port.cmdProducer = s.port.cmdProducer := rfl
@[simp] theorem State.taken_port_cplProducer : (s.taken).port.cplProducer = s.port.cplProducer := rfl
@[simp] theorem State.taken_port_cplConsumer : (s.taken).port.cplConsumer = s.port.cplConsumer := rfl
@[simp] theorem State.taken_port_window : (s.taken).port.window = s.port.window := rfl
@[simp] theorem State.taken_port_latched : (s.taken).port.latched = s.port.latched := rfl
@[simp] theorem State.taken_port_enables : (s.taken).port.enables = s.port.enables := rfl
@[simp] theorem State.taken_port_snapshot : (s.taken).port.snapshot = s.port.snapshot := rfl
@[simp] theorem State.taken_port_readData : (s.taken).port.readData = s.port.readData := rfl
@[simp] theorem State.taken_port_cmdConsumer : s.taken.port.cmdConsumer = (s.port.cmdConsumer + 1) % 32 := rfl
@[simp] theorem State.taken_port_reservations : s.taken.port.reservations = s.port.reservations + 1 := rfl

@[simp] theorem State.taken_chan (c' : Fin 4) : (s.taken).chan c' = s.chan c' := rfl
/-! ### State.presentCommand -/

@[simp] theorem State.presentCommand_port (d : Descriptor) : (s.presentCommand d).port = s.port := rfl
@[simp] theorem State.presentCommand_seed (d : Descriptor) : (s.presentCommand d).seed = s.seed := rfl
@[simp] theorem State.presentCommand_domains (d : Descriptor) : (s.presentCommand d).domains = s.domains := rfl
@[simp] theorem State.presentCommand_profiles (d : Descriptor) : (s.presentCommand d).profiles = s.profiles := rfl
@[simp] theorem State.presentCommand_chans (d : Descriptor) : (s.presentCommand d).chans = s.chans := rfl
@[simp] theorem State.presentCommand_table (d : Descriptor) : (s.presentCommand d).table = s.table := rfl
@[simp] theorem State.presentCommand_lastGranted (d : Descriptor) : (s.presentCommand d).lastGranted = s.lastGranted := rfl
@[simp] theorem State.presentCommand_opAtTable (d : Descriptor) : (s.presentCommand d).opAtTable = s.opAtTable := rfl
@[simp] theorem State.presentCommand_timer (d : Descriptor) : (s.presentCommand d).timer = s.timer := rfl
@[simp] theorem State.presentCommand_sweep (d : Descriptor) : (s.presentCommand d).sweep = s.sweep := rfl
@[simp] theorem State.presentCommand_freeCount (d : Descriptor) : (s.presentCommand d).freeCount = s.freeCount := rfl
@[simp] theorem State.presentCommand_pending (d : Descriptor) : (s.presentCommand d).pending = s.pending := rfl
@[simp] theorem State.presentCommand_inExec (d : Descriptor) : (s.presentCommand d).inExec = some { desc := d, phase := .waiting } := rfl

@[simp] theorem State.presentCommand_chan (d : Descriptor) (c' : Fin 4) : (s.presentCommand d).chan c' = s.chan c' := rfl
/-! ### State.setSweepState -/

@[simp] theorem State.setSweepState_port (x : SweepState) : (s.setSweepState x).port = s.port := rfl
@[simp] theorem State.setSweepState_inExec (x : SweepState) : (s.setSweepState x).inExec = s.inExec := rfl
@[simp] theorem State.setSweepState_seed (x : SweepState) : (s.setSweepState x).seed = s.seed := rfl
@[simp] theorem State.setSweepState_domains (x : SweepState) : (s.setSweepState x).domains = s.domains := rfl
@[simp] theorem State.setSweepState_profiles (x : SweepState) : (s.setSweepState x).profiles = s.profiles := rfl
@[simp] theorem State.setSweepState_chans (x : SweepState) : (s.setSweepState x).chans = s.chans := rfl
@[simp] theorem State.setSweepState_table (x : SweepState) : (s.setSweepState x).table = s.table := rfl
@[simp] theorem State.setSweepState_lastGranted (x : SweepState) : (s.setSweepState x).lastGranted = s.lastGranted := rfl
@[simp] theorem State.setSweepState_opAtTable (x : SweepState) : (s.setSweepState x).opAtTable = s.opAtTable := rfl
@[simp] theorem State.setSweepState_timer (x : SweepState) : (s.setSweepState x).timer = s.timer := rfl
@[simp] theorem State.setSweepState_freeCount (x : SweepState) : (s.setSweepState x).freeCount = s.freeCount := rfl
@[simp] theorem State.setSweepState_pending (x : SweepState) : (s.setSweepState x).pending = s.pending := rfl
@[simp] theorem State.setSweepState_sweep (x : SweepState) : (s.setSweepState x).sweep = { s.sweep with state := x } := rfl

@[simp] theorem State.setSweepState_chan (x : SweepState) (c' : Fin 4) : (s.setSweepState x).chan c' = s.chan c' := rfl
/-! ### State.presentPosition -/

@[simp] theorem State.presentPosition_port : (s.presentPosition).port = s.port := by unfold State.presentPosition; split <;> rfl
@[simp] theorem State.presentPosition_inExec : (s.presentPosition).inExec = s.inExec := by unfold State.presentPosition; split <;> rfl
@[simp] theorem State.presentPosition_seed : (s.presentPosition).seed = s.seed := by unfold State.presentPosition; split <;> rfl
@[simp] theorem State.presentPosition_domains : (s.presentPosition).domains = s.domains := by unfold State.presentPosition; split <;> rfl
@[simp] theorem State.presentPosition_profiles : (s.presentPosition).profiles = s.profiles := by unfold State.presentPosition; split <;> rfl
@[simp] theorem State.presentPosition_chans : (s.presentPosition).chans = s.chans := by unfold State.presentPosition; split <;> rfl
@[simp] theorem State.presentPosition_table : (s.presentPosition).table = s.table := by unfold State.presentPosition; split <;> rfl
@[simp] theorem State.presentPosition_lastGranted : (s.presentPosition).lastGranted = s.lastGranted := by unfold State.presentPosition; split <;> rfl
@[simp] theorem State.presentPosition_opAtTable : (s.presentPosition).opAtTable = s.opAtTable := by unfold State.presentPosition; split <;> rfl
@[simp] theorem State.presentPosition_timer : (s.presentPosition).timer = s.timer := by unfold State.presentPosition; split <;> rfl
@[simp] theorem State.presentPosition_freeCount : (s.presentPosition).freeCount = s.freeCount := by unfold State.presentPosition; split <;> rfl
@[simp] theorem State.presentPosition_pending : (s.presentPosition).pending = s.pending := by unfold State.presentPosition; split <;> rfl

/-! ### State.endSweep -/

@[simp] theorem State.endSweep_inExec (x : Status) : (s.endSweep x).inExec = s.inExec := by unfold State.endSweep; split <;> rfl
@[simp] theorem State.endSweep_seed (x : Status) : (s.endSweep x).seed = s.seed := by unfold State.endSweep; split <;> rfl
@[simp] theorem State.endSweep_domains (x : Status) : (s.endSweep x).domains = s.domains := by unfold State.endSweep; split <;> rfl
@[simp] theorem State.endSweep_profiles (x : Status) : (s.endSweep x).profiles = s.profiles := by unfold State.endSweep; split <;> rfl
@[simp] theorem State.endSweep_chans (x : Status) : (s.endSweep x).chans = s.chans := by unfold State.endSweep; split <;> rfl
@[simp] theorem State.endSweep_table (x : Status) : (s.endSweep x).table = s.table := by unfold State.endSweep; split <;> rfl
@[simp] theorem State.endSweep_lastGranted (x : Status) : (s.endSweep x).lastGranted = s.lastGranted := by unfold State.endSweep; split <;> rfl
@[simp] theorem State.endSweep_opAtTable (x : Status) : (s.endSweep x).opAtTable = s.opAtTable := by unfold State.endSweep; split <;> rfl
@[simp] theorem State.endSweep_timer (x : Status) : (s.endSweep x).timer = s.timer := by unfold State.endSweep; split <;> rfl
@[simp] theorem State.endSweep_freeCount (x : Status) : (s.endSweep x).freeCount = s.freeCount := by unfold State.endSweep; split <;> rfl
@[simp] theorem State.endSweep_pending (x : Status) : (s.endSweep x).pending = s.pending := by unfold State.endSweep; split <;> rfl

@[simp] theorem State.endSweep_chan (x : Status) (c' : Fin 4) : (s.endSweep x).chan c' = s.chan c' := by unfold State.endSweep; split <;> rfl
/-! ### State.endSuspend -/

@[simp] theorem State.endSuspend_inExec (x : Status) : (s.endSuspend x).inExec = s.inExec := by unfold State.endSuspend; split <;> rfl
@[simp] theorem State.endSuspend_seed (x : Status) : (s.endSuspend x).seed = s.seed := by unfold State.endSuspend; split <;> rfl
@[simp] theorem State.endSuspend_domains (x : Status) : (s.endSuspend x).domains = s.domains := by unfold State.endSuspend; split <;> rfl
@[simp] theorem State.endSuspend_profiles (x : Status) : (s.endSuspend x).profiles = s.profiles := by unfold State.endSuspend; split <;> rfl
@[simp] theorem State.endSuspend_chans (x : Status) : (s.endSuspend x).chans = s.chans := by unfold State.endSuspend; split <;> rfl
@[simp] theorem State.endSuspend_table (x : Status) : (s.endSuspend x).table = s.table := by unfold State.endSuspend; split <;> rfl
@[simp] theorem State.endSuspend_lastGranted (x : Status) : (s.endSuspend x).lastGranted = s.lastGranted := by unfold State.endSuspend; split <;> rfl
@[simp] theorem State.endSuspend_opAtTable (x : Status) : (s.endSuspend x).opAtTable = s.opAtTable := by unfold State.endSuspend; split <;> rfl
@[simp] theorem State.endSuspend_timer (x : Status) : (s.endSuspend x).timer = s.timer := by unfold State.endSuspend; split <;> rfl
@[simp] theorem State.endSuspend_freeCount (x : Status) : (s.endSuspend x).freeCount = s.freeCount := by unfold State.endSuspend; split <;> rfl
@[simp] theorem State.endSuspend_pending (x : Status) : (s.endSuspend x).pending = s.pending := by unfold State.endSuspend; split <;> rfl

@[simp] theorem State.endSuspend_chan (x : Status) (c' : Fin 4) : (s.endSuspend x).chan c' = s.chan c' := by unfold State.endSuspend; split <;> rfl
/-! ### State.endClose -/

@[simp] theorem State.endClose_inExec (c : Fin 4) (x : Status) : (s.endClose c x).inExec = s.inExec := by unfold State.endClose; split <;> rfl
@[simp] theorem State.endClose_seed (c : Fin 4) (x : Status) : (s.endClose c x).seed = s.seed := by unfold State.endClose; split <;> rfl
@[simp] theorem State.endClose_domains (c : Fin 4) (x : Status) : (s.endClose c x).domains = s.domains := by unfold State.endClose; split <;> rfl
@[simp] theorem State.endClose_profiles (c : Fin 4) (x : Status) : (s.endClose c x).profiles = s.profiles := by unfold State.endClose; split <;> rfl
@[simp] theorem State.endClose_table (c : Fin 4) (x : Status) : (s.endClose c x).table = s.table := by unfold State.endClose; split <;> rfl
@[simp] theorem State.endClose_lastGranted (c : Fin 4) (x : Status) : (s.endClose c x).lastGranted = s.lastGranted := by unfold State.endClose; split <;> rfl
@[simp] theorem State.endClose_opAtTable (c : Fin 4) (x : Status) : (s.endClose c x).opAtTable = s.opAtTable := by unfold State.endClose; split <;> rfl
@[simp] theorem State.endClose_timer (c : Fin 4) (x : Status) : (s.endClose c x).timer = s.timer := by unfold State.endClose; split <;> rfl
@[simp] theorem State.endClose_sweep (c : Fin 4) (x : Status) : (s.endClose c x).sweep = s.sweep := by unfold State.endClose; split <;> rfl
@[simp] theorem State.endClose_freeCount (c : Fin 4) (x : Status) : (s.endClose c x).freeCount = s.freeCount := by unfold State.endClose; split <;> rfl
@[simp] theorem State.endClose_pending (c : Fin 4) (x : Status) : (s.endClose c x).pending = s.pending := by unfold State.endClose; split <;> rfl

/-! ### State.presentDue -/

@[simp] theorem State.presentDue_port : (s.presentDue).port = s.port := by unfold State.presentDue; split <;> rfl
@[simp] theorem State.presentDue_inExec : (s.presentDue).inExec = s.inExec := by unfold State.presentDue; split <;> rfl
@[simp] theorem State.presentDue_seed : (s.presentDue).seed = s.seed := by unfold State.presentDue; split <;> rfl
@[simp] theorem State.presentDue_domains : (s.presentDue).domains = s.domains := by unfold State.presentDue; split <;> rfl
@[simp] theorem State.presentDue_profiles : (s.presentDue).profiles = s.profiles := by unfold State.presentDue; split <;> rfl
@[simp] theorem State.presentDue_chans : (s.presentDue).chans = s.chans := by unfold State.presentDue; split <;> rfl
@[simp] theorem State.presentDue_table : (s.presentDue).table = s.table := by unfold State.presentDue; split <;> rfl
@[simp] theorem State.presentDue_lastGranted : (s.presentDue).lastGranted = s.lastGranted := by unfold State.presentDue; split <;> rfl
@[simp] theorem State.presentDue_opAtTable : (s.presentDue).opAtTable = s.opAtTable := by unfold State.presentDue; split <;> rfl
@[simp] theorem State.presentDue_sweep : (s.presentDue).sweep = s.sweep := by unfold State.presentDue; split <;> rfl
@[simp] theorem State.presentDue_freeCount : (s.presentDue).freeCount = s.freeCount := by unfold State.presentDue; split <;> rfl
@[simp] theorem State.presentDue_pending : (s.presentDue).pending = s.pending := by unfold State.presentDue; split <;> rfl

/-! ### State.clockPeriod -/

@[simp] theorem State.clockPeriod_port : (s.clockPeriod).port = s.port := rfl
@[simp] theorem State.clockPeriod_inExec : (s.clockPeriod).inExec = s.inExec := rfl
@[simp] theorem State.clockPeriod_seed : (s.clockPeriod).seed = s.seed := rfl
@[simp] theorem State.clockPeriod_domains : (s.clockPeriod).domains = s.domains := rfl
@[simp] theorem State.clockPeriod_profiles : (s.clockPeriod).profiles = s.profiles := rfl
@[simp] theorem State.clockPeriod_chans : (s.clockPeriod).chans = s.chans := rfl
@[simp] theorem State.clockPeriod_table : (s.clockPeriod).table = s.table := rfl
@[simp] theorem State.clockPeriod_lastGranted : (s.clockPeriod).lastGranted = s.lastGranted := rfl
@[simp] theorem State.clockPeriod_opAtTable : (s.clockPeriod).opAtTable = s.opAtTable := rfl
@[simp] theorem State.clockPeriod_sweep : (s.clockPeriod).sweep = s.sweep := rfl
@[simp] theorem State.clockPeriod_freeCount : (s.clockPeriod).freeCount = s.freeCount := rfl
@[simp] theorem State.clockPeriod_pending : (s.clockPeriod).pending = s.pending := rfl

/-! ### FlowTable.setSlot -/

@[simp] theorem FlowTable.setSlot_counts (h : Nat) (x : Slot) : (t.setSlot h x).counts = t.counts := rfl
@[simp] theorem FlowTable.setSlot_learned (h : Nat) (x : Slot) : (t.setSlot h x).learned = t.learned := rfl
@[simp] theorem FlowTable.setSlot_closed (h : Nat) (x : Slot) : (t.setSlot h x).closed = t.closed := rfl
@[simp] theorem FlowTable.setSlot_expiryQ (h : Nat) (x : Slot) : (t.setSlot h x).expiryQ = t.expiryQ := rfl
@[simp] theorem FlowTable.setSlot_holdQ (h : Nat) (x : Slot) : (t.setSlot h x).holdQ = t.holdQ := rfl

/-! ### FlowTable.setDir -/

@[simp] theorem FlowTable.setDir_counts (h : Nat) (e : DirEntry) : (t.setDir h e).counts = t.counts := rfl
@[simp] theorem FlowTable.setDir_learned (h : Nat) (e : DirEntry) : (t.setDir h e).learned = t.learned := rfl
@[simp] theorem FlowTable.setDir_closed (h : Nat) (e : DirEntry) : (t.setDir h e).closed = t.closed := rfl
@[simp] theorem FlowTable.setDir_expiryQ (h : Nat) (e : DirEntry) : (t.setDir h e).expiryQ = t.expiryQ := rfl
@[simp] theorem FlowTable.setDir_holdQ (h : Nat) (e : DirEntry) : (t.setDir h e).holdQ = t.holdQ := rfl

/-! ### FlowTable.modifyBody -/

@[simp] theorem FlowTable.modifyBody_counts (h : Nat) (f : Body → Body) : (t.modifyBody h f).counts = t.counts := rfl
@[simp] theorem FlowTable.modifyBody_learned (h : Nat) (f : Body → Body) : (t.modifyBody h f).learned = t.learned := rfl
@[simp] theorem FlowTable.modifyBody_closed (h : Nat) (f : Body → Body) : (t.modifyBody h f).closed = t.closed := rfl
@[simp] theorem FlowTable.modifyBody_expiryQ (h : Nat) (f : Body → Body) : (t.modifyBody h f).expiryQ = t.expiryQ := rfl
@[simp] theorem FlowTable.modifyBody_holdQ (h : Nat) (f : Body → Body) : (t.modifyBody h f).holdQ = t.holdQ := rfl

/-! ### FlowTable.setCount -/

@[simp] theorem FlowTable.setCount_slots (d : Fin 16) (n : Nat) : (t.setCount d n).slots = t.slots := rfl
@[simp] theorem FlowTable.setCount_learned (d : Fin 16) (n : Nat) : (t.setCount d n).learned = t.learned := rfl
@[simp] theorem FlowTable.setCount_closed (d : Fin 16) (n : Nat) : (t.setCount d n).closed = t.closed := rfl
@[simp] theorem FlowTable.setCount_expiryQ (d : Fin 16) (n : Nat) : (t.setCount d n).expiryQ = t.expiryQ := rfl
@[simp] theorem FlowTable.setCount_holdQ (d : Fin 16) (n : Nat) : (t.setCount d n).holdQ = t.holdQ := rfl

/-! ### FlowTable.setLearned -/

@[simp] theorem FlowTable.setLearned_slots (l : List Nat) : (t.setLearned l).slots = t.slots := rfl
@[simp] theorem FlowTable.setLearned_counts (l : List Nat) : (t.setLearned l).counts = t.counts := rfl
@[simp] theorem FlowTable.setLearned_closed (l : List Nat) : (t.setLearned l).closed = t.closed := rfl
@[simp] theorem FlowTable.setLearned_expiryQ (l : List Nat) : (t.setLearned l).expiryQ = t.expiryQ := rfl
@[simp] theorem FlowTable.setLearned_holdQ (l : List Nat) : (t.setLearned l).holdQ = t.holdQ := rfl
@[simp] theorem FlowTable.setLearned_learned (l : List Nat) : (t.setLearned l).learned = l := rfl

/-! ### FlowTable.setClosed -/

@[simp] theorem FlowTable.setClosed_slots (l : List Nat) : (t.setClosed l).slots = t.slots := rfl
@[simp] theorem FlowTable.setClosed_counts (l : List Nat) : (t.setClosed l).counts = t.counts := rfl
@[simp] theorem FlowTable.setClosed_learned (l : List Nat) : (t.setClosed l).learned = t.learned := rfl
@[simp] theorem FlowTable.setClosed_expiryQ (l : List Nat) : (t.setClosed l).expiryQ = t.expiryQ := rfl
@[simp] theorem FlowTable.setClosed_holdQ (l : List Nat) : (t.setClosed l).holdQ = t.holdQ := rfl
@[simp] theorem FlowTable.setClosed_closed (l : List Nat) : (t.setClosed l).closed = l := rfl

/-! ### FlowTable.setExpiryQ -/

@[simp] theorem FlowTable.setExpiryQ_slots (l : List (Nat × Nat)) : (t.setExpiryQ l).slots = t.slots := rfl
@[simp] theorem FlowTable.setExpiryQ_counts (l : List (Nat × Nat)) : (t.setExpiryQ l).counts = t.counts := rfl
@[simp] theorem FlowTable.setExpiryQ_learned (l : List (Nat × Nat)) : (t.setExpiryQ l).learned = t.learned := rfl
@[simp] theorem FlowTable.setExpiryQ_closed (l : List (Nat × Nat)) : (t.setExpiryQ l).closed = t.closed := rfl
@[simp] theorem FlowTable.setExpiryQ_holdQ (l : List (Nat × Nat)) : (t.setExpiryQ l).holdQ = t.holdQ := rfl
@[simp] theorem FlowTable.setExpiryQ_expiryQ (l : List (Nat × Nat)) : (t.setExpiryQ l).expiryQ = l := rfl

/-! ### FlowTable.setHoldQ -/

@[simp] theorem FlowTable.setHoldQ_slots (l : List (Nat × Nat)) : (t.setHoldQ l).slots = t.slots := rfl
@[simp] theorem FlowTable.setHoldQ_counts (l : List (Nat × Nat)) : (t.setHoldQ l).counts = t.counts := rfl
@[simp] theorem FlowTable.setHoldQ_learned (l : List (Nat × Nat)) : (t.setHoldQ l).learned = t.learned := rfl
@[simp] theorem FlowTable.setHoldQ_closed (l : List (Nat × Nat)) : (t.setHoldQ l).closed = t.closed := rfl
@[simp] theorem FlowTable.setHoldQ_expiryQ (l : List (Nat × Nat)) : (t.setHoldQ l).expiryQ = t.expiryQ := rfl
@[simp] theorem FlowTable.setHoldQ_holdQ (l : List (Nat × Nat)) : (t.setHoldQ l).holdQ = l := rfl

/-! ### FlowTable.arm -/

@[simp] theorem FlowTable.arm_counts (h : Nat) (w : Nat) : (t.arm h w).counts = t.counts := rfl
@[simp] theorem FlowTable.arm_learned (h : Nat) (w : Nat) : (t.arm h w).learned = t.learned := rfl
@[simp] theorem FlowTable.arm_closed (h : Nat) (w : Nat) : (t.arm h w).closed = t.closed := rfl
@[simp] theorem FlowTable.arm_holdQ (h : Nat) (w : Nat) : (t.arm h w).holdQ = t.holdQ := rfl
@[simp] theorem FlowTable.arm_expiryQ (h : Nat) (w : Nat) : (t.arm h w).expiryQ = queueInsert w h (queueRemove h t.expiryQ) := rfl

/-! ### FlowTable.disarm -/

@[simp] theorem FlowTable.disarm_counts (h : Nat) : (t.disarm h).counts = t.counts := rfl
@[simp] theorem FlowTable.disarm_learned (h : Nat) : (t.disarm h).learned = t.learned := rfl
@[simp] theorem FlowTable.disarm_closed (h : Nat) : (t.disarm h).closed = t.closed := rfl
@[simp] theorem FlowTable.disarm_holdQ (h : Nat) : (t.disarm h).holdQ = t.holdQ := rfl
@[simp] theorem FlowTable.disarm_expiryQ (h : Nat) : (t.disarm h).expiryQ = queueRemove h t.expiryQ := rfl

/-! ### FlowTable.enterHold -/

@[simp] theorem FlowTable.enterHold_counts (h : Nat) (w : Nat) : (t.enterHold h w).counts = t.counts := rfl
@[simp] theorem FlowTable.enterHold_learned (h : Nat) (w : Nat) : (t.enterHold h w).learned = t.learned := rfl
@[simp] theorem FlowTable.enterHold_closed (h : Nat) (w : Nat) : (t.enterHold h w).closed = t.closed := rfl
@[simp] theorem FlowTable.enterHold_expiryQ (h : Nat) (w : Nat) : (t.enterHold h w).expiryQ = t.expiryQ := rfl
@[simp] theorem FlowTable.enterHold_holdQ (h : Nat) (w : Nat) : (t.enterHold h w).holdQ = queueInsert w h (queueRemove h t.holdQ) := rfl

/-! ### FlowTable.leaveHold -/

@[simp] theorem FlowTable.leaveHold_counts (h : Nat) : (t.leaveHold h).counts = t.counts := rfl
@[simp] theorem FlowTable.leaveHold_learned (h : Nat) : (t.leaveHold h).learned = t.learned := rfl
@[simp] theorem FlowTable.leaveHold_closed (h : Nat) : (t.leaveHold h).closed = t.closed := rfl
@[simp] theorem FlowTable.leaveHold_expiryQ (h : Nat) : (t.leaveHold h).expiryQ = t.expiryQ := rfl
@[simp] theorem FlowTable.leaveHold_holdQ (h : Nat) : (t.leaveHold h).holdQ = queueRemove h t.holdQ := rfl

/-! ### FlowTable.unlist -/

@[simp] theorem FlowTable.unlist_slots (h : Nat) : (t.unlist h).slots = t.slots := rfl
@[simp] theorem FlowTable.unlist_counts (h : Nat) : (t.unlist h).counts = t.counts := rfl
@[simp] theorem FlowTable.unlist_closed (h : Nat) : (t.unlist h).closed = t.closed := rfl
@[simp] theorem FlowTable.unlist_expiryQ (h : Nat) : (t.unlist h).expiryQ = t.expiryQ := rfl
@[simp] theorem FlowTable.unlist_holdQ (h : Nat) : (t.unlist h).holdQ = t.holdQ := rfl
@[simp] theorem FlowTable.unlist_learned (h : Nat) : (t.unlist h).learned = t.learned.filter (· ≠ h) := rfl

/-! ### FlowTable.unreport -/

@[simp] theorem FlowTable.unreport_counts (h : Nat) : (t.unreport h).counts = t.counts := rfl
@[simp] theorem FlowTable.unreport_learned (h : Nat) : (t.unreport h).learned = t.learned := rfl
@[simp] theorem FlowTable.unreport_closed (h : Nat) : (t.unreport h).closed = t.closed := rfl
@[simp] theorem FlowTable.unreport_expiryQ (h : Nat) : (t.unreport h).expiryQ = t.expiryQ := rfl
@[simp] theorem FlowTable.unreport_holdQ (h : Nat) : (t.unreport h).holdQ = t.holdQ := rfl

/-! ### FlowTable.armLease -/

@[simp] theorem FlowTable.armLease_counts (h : Nat) (now i : Nat) : (t.armLease h now i).counts = t.counts := by unfold FlowTable.armLease; split <;> rfl
@[simp] theorem FlowTable.armLease_learned (h : Nat) (now i : Nat) : (t.armLease h now i).learned = t.learned := by unfold FlowTable.armLease; split <;> rfl
@[simp] theorem FlowTable.armLease_closed (h : Nat) (now i : Nat) : (t.armLease h now i).closed = t.closed := by unfold FlowTable.armLease; split <;> rfl
@[simp] theorem FlowTable.armLease_holdQ (h : Nat) (now i : Nat) : (t.armLease h now i).holdQ = t.holdQ := by unfold FlowTable.armLease; split <;> rfl

/-! ### FlowTable.refresh -/

@[simp] theorem FlowTable.refresh_counts (h : Nat) (now : Nat) : (t.refresh h now).counts = t.counts := by unfold FlowTable.refresh; split <;> rfl
@[simp] theorem FlowTable.refresh_learned (h : Nat) (now : Nat) : (t.refresh h now).learned = t.learned := by unfold FlowTable.refresh; split <;> rfl
@[simp] theorem FlowTable.refresh_closed (h : Nat) (now : Nat) : (t.refresh h now).closed = t.closed := by unfold FlowTable.refresh; split <;> rfl
@[simp] theorem FlowTable.refresh_holdQ (h : Nat) (now : Nat) : (t.refresh h now).holdQ = t.holdQ := by unfold FlowTable.refresh; split <;> rfl

/-! ### FlowTable.damage -/

@[simp] theorem FlowTable.damage_counts (h : Nat) : (t.damage h).counts = t.counts := by simp [FlowTable.damage]
@[simp] theorem FlowTable.damage_learned (h : Nat) : (t.damage h).learned = t.learned.filter (· ≠ h) := by simp [FlowTable.damage]
@[simp] theorem FlowTable.damage_expiryQ (h : Nat) : (t.damage h).expiryQ = queueRemove h t.expiryQ := by simp [FlowTable.damage]
@[simp] theorem FlowTable.damage_holdQ (h : Nat) : (t.damage h).holdQ = queueRemove h t.holdQ := by simp [FlowTable.damage]
@[simp] theorem FlowTable.damage_closed (h : Nat) : (t.damage h).closed = if (t.dir h).state = .closing then t.closed else t.closed ++ [h] := by simp [FlowTable.damage]

/-! ### FlowTable.free -/

@[simp] theorem FlowTable.free_learned (h : Nat) : (t.free h).learned = t.learned.filter (· ≠ h) := by simp [FlowTable.free]
@[simp] theorem FlowTable.free_closed (h : Nat) : (t.free h).closed = t.closed.filter (· ≠ h) := by simp [FlowTable.free]
@[simp] theorem FlowTable.free_expiryQ (h : Nat) : (t.free h).expiryQ = queueRemove h t.expiryQ := by simp [FlowTable.free]
@[simp] theorem FlowTable.free_holdQ (h : Nat) : (t.free h).holdQ = queueRemove h t.holdQ := by simp [FlowTable.free]

/-! ### FlowTable.close -/

@[simp] theorem FlowTable.close_counts (h : Nat) (r : CloseReason) : (t.close h r false).counts = t.counts := by simp [FlowTable.close]
@[simp] theorem FlowTable.close_learned (h : Nat) (r : CloseReason) : (t.close h r false).learned = t.learned := by simp [FlowTable.close]
@[simp] theorem FlowTable.close_closed (h : Nat) (r : CloseReason) : (t.close h r false).closed = t.closed ++ [h] := by simp [FlowTable.close]
@[simp] theorem FlowTable.close_expiryQ (h : Nat) (r : CloseReason) : (t.close h r false).expiryQ = queueRemove h t.expiryQ := by simp [FlowTable.close]
@[simp] theorem FlowTable.close_holdQ (h : Nat) (r : CloseReason) : (t.close h r false).holdQ = queueRemove h t.holdQ := by simp [FlowTable.close]

/-! ### FlowTable.create -/

@[simp] theorem FlowTable.create_closed (h : Nat) (x : RecState) (d : Fin 16) (b : Body) : (t.create h x d b).closed = t.closed := by simp [FlowTable.create]
@[simp] theorem FlowTable.create_holdQ (h : Nat) (x : RecState) (d : Fin 16) (b : Body) : (t.create h x d b).holdQ = t.holdQ := by simp [FlowTable.create]
@[simp] theorem FlowTable.create_learned (h : Nat) (x : RecState) (d : Fin 16) (b : Body) : (t.create h x d b).learned = if x = .provisional then t.learned ++ [h] else t.learned := by simp [FlowTable.create]

/-! ### FlowTable.release -/

@[simp] theorem FlowTable.release_counts (h : Nat) (now : Nat) : (t.release h now).counts = t.counts := by simp [FlowTable.release]
@[simp] theorem FlowTable.release_learned (h : Nat) (now : Nat) : (t.release h now).learned = t.learned := by simp [FlowTable.release]
@[simp] theorem FlowTable.release_closed (h : Nat) (now : Nat) : (t.release h now).closed = t.closed := by simp [FlowTable.release]
@[simp] theorem FlowTable.release_holdQ (h : Nat) (now : Nat) : (t.release h now).holdQ = queueRemove h t.holdQ := by simp [FlowTable.release]

end Sys2Proof.Machine
end

