-- ==== Sys2Proof/Laws/Control.lean ====
section
/-! SUPPORT. What the shared control operations can do, said once for each: takes, grants, references, due entries, the
service of a channel's queue, pending long commands, and the step. -/

namespace Sys2Proof.Machine

variable {s t : State}

/-! ### The step -/

/-- A step runs the front command with the queue's rest, or, with no command waiting, a clock period. -/
theorem step_cases (h : step s = .next t) :
    (s.pending = [] ∧ t = s.clockPeriod)
    ∨ ∃ c rest, s.pending = c :: rest ∧ exec c { s with pending := rest } = .next t := by
  unfold step at h
  split at h
  · rename_i e; injection h with h; exact .inl ⟨e, h.symm⟩
  · rename_i c rest e; exact .inr ⟨c, rest, e, h⟩

/-! ### Periods of the reference clock (R99, R100) -/

/-- With tick enable off no period is counted. -/
theorem Timer.periods_off {l : Timer} (n : Nat) (h : l.enable = false) : l.periods n = l := by
  simp [Timer.periods, h]

/-- A period that does not fill the divider is counted. -/
theorem Timer.periods_one_counted {l : Timer} (e : l.enable = true) (b : l.timeBase ≤ Config.timeMax)
    (h : l.dividerCount + 1 < l.divider) : l.periods 1 = { l with dividerCount := l.dividerCount + 1 } := by
  simp [Timer.periods, e, Nat.div_eq_of_lt h, Nat.mod_eq_of_lt h, b]

/-- The periods that fill the divider make one tick and a fresh count. -/
theorem Timer.periods_filled {l : Timer} {n : Nat} (e : l.enable = true) (p : 0 < l.divider)
    (h : l.dividerCount + n = l.divider) :
    l.periods n = { l with timeBase := min Config.timeMax (l.timeBase + 1), dividerCount := 0 } := by
  simp [Timer.periods, e, h, Nat.div_self p]

/-- Periods add up. -/
theorem Timer.periods_add (l : Timer) (m n : Nat) (p : 0 < l.divider) :
    (l.periods m).periods n = l.periods (m + n) := by
  unfold Timer.periods
  by_cases e : l.enable = true
  · simp only [e, if_true, Timer.mk.injEq, true_and, and_true]
    have q : (l.dividerCount + (m + n)) / l.divider
        = (l.dividerCount + m) / l.divider + ((l.dividerCount + m) % l.divider + n) / l.divider := by
      conv_lhs => rw [← Nat.add_assoc, ← Nat.div_add_mod (l.dividerCount + m) l.divider, Nat.add_assoc,
        Nat.mul_add_div p]
    refine ⟨?_, by rw [Nat.mod_add_mod, Nat.add_assoc]⟩
    rw [q]
    generalize (l.dividerCount + m) / l.divider = x
    generalize ((l.dividerCount + m) % l.divider + n) / l.divider = y
    omega
  · simp [e]

/-- Clock periods one after another are so many periods at the LT. -/
theorem State.clockPeriod_iterate (s : State) (p : 0 < s.timer.divider) (b : s.timer.timeBase ≤ Config.timeMax)
    (c : s.timer.dividerCount < s.timer.divider) (n : Nat) :
    Nat.iterate State.clockPeriod n s = { s with timer := s.timer.periods n } := by
  induction n with
  | zero =>
    have e : s.timer.periods 0 = s.timer := by
      unfold Timer.periods
      split
      · simp [Nat.div_eq_of_lt c, Nat.mod_eq_of_lt c, b]
      · rfl
    simp [e]
  | succ n ih =>
    rw [Function.iterate_succ_apply', ih]
    simp only [State.clockPeriod]
    rw [Timer.periods_add _ _ _ p]

/-! ### Takes (R145, R146) -/

/-- The CP can take a command exactly when the five conditions hold. -/
theorem State.canTake_iff : s.canTake = true ↔ CanTakeNow s := by
  have e : (∀ op, s.opAtTable = some op → op.requester ≠ .cp) ↔ s.atTable .cp = false := by
    unfold State.atTable
    rcases s.opAtTable with _ | op <;> simp
  unfold CanTakeNow
  rw [e]
  simp [State.canTake, Config.completionSlots, and_assoc]

/-- A take whose conditions hold runs the command on the taken state. -/
theorem State.take_eq {isRow : Descriptor → Bool} {act : Descriptor → State → State} (h : CanTakeNow s)
    (r : isRow s.nextDescriptor = true) : s.take isRow act = act s.nextDescriptor s.taken := by
  simp [State.take, State.canTake_iff.mpr h, r]

/-- A take changes nothing, or takes the command of the row's kind. -/
theorem State.take_cases (isRow : Descriptor → Bool) (act : Descriptor → State → State) :
    s.take isRow act = s
    ∨ (CanTakeNow s ∧ isRow s.nextDescriptor = true ∧ s.take isRow act = act s.nextDescriptor s.taken) := by
  by_cases h : s.canTake = true ∧ isRow s.nextDescriptor = true
  · exact .inr ⟨State.canTake_iff.mp h.1, h.2, State.take_eq (State.canTake_iff.mp h.1) h.2⟩
  · left; unfold State.take; rw [if_neg]; simpa using h

/-- The checks refuse a command with BAD_ARGUMENT, or let it act. -/
theorem checked_cases (check : Descriptor → Bool) (r : Descriptor → State → Results) (act : Descriptor → State → State) (d : Descriptor) :
    (check d = true ∧ checked check r act d s = act d s)
    ∨ (check d = false ∧ checked check r act d s = s.complete d .badArgument (r d s)) := by
  unfold checked
  rcases check d <;> simp

/-- What a refused CONFIRM carries: the reference as given, with some 14-bit handle when the given one does not fit (R126). -/
theorem confirmRefused_cases (d : Descriptor) (s : State) :
    ∃ h, h < 16384 ∧ (handleOf d < 16384 → h = handleOf d)
      ∧ confirmRefused d s = .record { handle := h, generation := generationOf d } := by
  by_cases w : handleOf d < 16384
  · exact ⟨handleOf d, w, fun _ => rfl, by simp [confirmRefused, w]⟩
  · exact ⟨_, (Config.wideHandle (BitVec.ofNat 16 (handleOf d))).isLt, fun c => absurd c w, by simp [confirmRefused, w]⟩

/-- A command that completes at once leaves the state after the take with its completion posted. -/
theorem State.taken_complete (st : Status) (r : Results) :
    s.taken.complete s.nextDescriptor st r = s.takenAndPosted st r := rfl

/-- A CHANNEL_CONTROL of an action and a channel is taken by the action's row. -/
theorem State.takeControl_eq {c : Fin 4} {a : Nat} {act : Descriptor → State → State} (h : CanTakeNow s)
    (k : kindOf s.nextDescriptor = 6#8) (n : fieldAt s.nextDescriptor 4 1 = c.val)
    (e : fieldAt s.nextDescriptor 5 1 = a) (l : 1 ≤ a) (u : a ≤ 3) :
    s.takeControl a act = act s.nextDescriptor s.taken := by
  have w : checkChannelControl s.nextDescriptor = true := by simp [checkChannelControl, n, e]; omega
  unfold State.takeControl
  rw [State.take_eq h (by simp [ofAction, k, e])]
  simp [checked, w]

/-- The channel that a descriptor names. -/
theorem channelArg_eq {d : Descriptor} {c : Fin 4} (n : fieldAt d 4 1 = c.val) : channelArg d = c := by
  apply Fin.ext
  simp [channelArg, n, Fin.ofNat]

/-- The domain that a descriptor names. -/
theorem domainOf_eq {d : Descriptor} {n : Fin 16} (e : fieldAt d 4 1 = n.val) : domainOf d = n := by
  apply Fin.ext
  simp [domainOf, e, Fin.ofNat]

/-- The profile that a descriptor names. -/
theorem profileOf_eq {d : Descriptor} {p : Fin 64} (e : fieldAt d 4 1 = p.val) : profileOf d = p := by
  apply Fin.ext
  simp [profileOf, e, Fin.ofNat]

/-- The class that a descriptor gives. -/
theorem classArg_eq {d : Descriptor} {c : Byte} (e : fieldAt d 8 2 = c.toNat) : classArg d = c := by
  simp [classArg, e]

/-- The profile that a descriptor assigns. -/
theorem profileArg_eq {d : Descriptor} {p : Fin 64} (e : fieldAt d 10 1 = p.val) : profileArg d = p := by
  apply Fin.ext
  simp [profileArg, e, Fin.ofNat]

/-! ### Grants (R29) -/

/-- What is granted next waits, and the table is free. -/
theorem State.nextGrant_some {r : Requester} (h : s.nextGrant = some r) : s.opAtTable = none ∧ s.waits r = true := by
  unfold State.nextGrant at h
  split at h
  · cases h
  · rename_i e; exact ⟨e, by simpa using List.find?_some h⟩

/-- The command in execution waits for its table operation when the CP is granted next. -/
theorem State.nextGrant_cp (h : s.nextGrant = some .cp) : ∃ e, s.inExec = some e ∧ e.phase = .waiting := by
  have w := (State.nextGrant_some h).2
  unfold State.waits at w
  rcases e : s.inExec with _ | x
  · simp [e] at w
  · exact ⟨x, rfl, by simpa [e] using w⟩

/-- The operation of the command in execution, at its grant. -/
theorem State.commandOperation_eq {k : Byte} {d : Descriptor} {op : Descriptor → State → State × Status × Results}
    (h : s.AtGrant k d) : s.commandOperation k op =
      ({ (op d s).1 with table := s.table } : State).grant .cp (op d s).1.table
        (.completion (op d s).2.1 (op d s).2.2) := by
  obtain ⟨a, b, c⟩ := h
  simp [State.commandOperation, a, b, c]

/-- An operation row changes nothing, or carries out the operation of the waiting command of its kind. -/
theorem State.commandOperation_cases (k : Byte) (op : Descriptor → State → State × Status × Results) :
    s.commandOperation k op = s ∨ ∃ d, s.AtGrant k d := by
  by_cases g : s.nextGrant = some .cp
  · obtain ⟨⟨d, p⟩, e, w⟩ := State.nextGrant_cp g
    by_cases y : kindOf d = k
    · right; exact ⟨d, g, by simp at w; simp [e, w], y⟩
    · left; simp [State.commandOperation, g, e, y]
  · left; unfold State.commandOperation; split
    · rename_i a b; exact absurd a g
    · rfl

/-- The request that a channel has granted. -/
theorem State.grantedRequest_eq {c : Fin 4} {q : Request} (g : s.nextGrant = some (.lc c))
    (h : (s.chan c).queue.head? = some q) : s.grantedRequest = some (c, q.body) := by
  simp [State.grantedRequest, g, h]

/-- A granted request is the head of its channel's queue. -/
theorem State.grantedRequest_some {c : Fin 4} {r : RequestBody} (h : s.grantedRequest = some (c, r)) :
    s.nextGrant = some (.lc c) ∧ ∃ q, (s.chan c).queue.head? = some q ∧ q.body = r := by
  unfold State.grantedRequest at h
  split at h
  · rename_i d e
    rcases y : (s.chan d).queue.head? with _ | q
    · simp [y] at h
    · simp only [y, Option.map_some, Option.some.injEq, Prod.mk.injEq] at h
      obtain ⟨rfl, rfl⟩ := h
      exact ⟨e, q, y, rfl⟩
  · cases h

/-! ### References (R7, R36) -/

/-- A reference is stale exactly when it is not current. -/
theorem DirEntry.stale_iff (u : FlowTable) (h : Nat) (g : Byte) : (u.dir h).stale g = true ↔ ¬ u.Current h g := by
  simp only [DirEntry.stale, Bool.or_eq_true, decide_eq_true_eq]
  tauto

/-- What a command on a reference does when every test passes. -/
theorem onReference_eq {admits : RecState → Bool} {act : Descriptor → State → State × Status × Results} {d : Descriptor}
    (c : s.table.Current (handleOf d) (generationOf d)) (a : admits (s.table.dir (handleOf d)).state = true)
    (b : s.table.bad (handleOf d) = false) : onReference admits act d s = act d s := by
  unfold onReference
  rw [if_neg (by rw [DirEntry.stale_iff]; exact not_not.mpr c), if_neg (by simp [a]), if_neg (by simp [b])]

/-- What a command on a reference can do: nothing, damage, or its own act. -/
theorem onReference_cases (admits : RecState → Bool) (act : Descriptor → State → State × Status × Results)
    (d : Descriptor) :
    (onReference admits act d s).1 = s
    ∨ (onReference admits act d s).1 = { s with table := s.table.damage (handleOf d) }
        ∧ (s.table.dir (handleOf d)).state ≠ .free ∧ admits (s.table.dir (handleOf d)).state = true
        ∧ s.table.bad (handleOf d) = true
    ∨ onReference admits act d s = act d s
        ∧ (s.table.dir (handleOf d)).state ≠ .free ∧ admits (s.table.dir (handleOf d)).state = true
        ∧ s.table.bad (handleOf d) = false := by
  unfold onReference
  dsimp only
  split
  · exact .inl rfl
  · rename_i c
    have f : (s.table.dir (handleOf d)).state ≠ .free := by
      intro e; exact c (by simp [DirEntry.stale, e])
    split
    · exact .inl rfl
    · rename_i a
      split
      · rename_i b; exact .inr (.inl ⟨rfl, f, by simpa using a, b⟩)
      · rename_i b; exact .inr (.inr ⟨rfl, f, by simpa using a, by simpa using b⟩)

/-! ### Due entries (R106) -/

/-- A due head stands in its queue and is due. -/
theorem dueHead_mem {now : Nat} {q : List (Nat × Nat)} {p : Nat × Nat} (h : dueHead now q = some p) :
    p ∈ q ∧ p.1 ≤ now := by
  unfold dueHead at h
  split at h
  · split at h
    · injection h with h; subst h; exact ⟨List.mem_cons_self, by assumption⟩
    · cases h
  · cases h

/-- The due head comes before every other entry of its queue. -/
theorem dueHead_first {now : Nat} {q : List (Nat × Nat)} {p : Nat × Nat} (i : QueueInv q) (h : dueHead now q = some p) :
    ∀ x ∈ q, x = p ∨ queueLt p x := by
  unfold dueHead at h
  split at h
  · rename_i y r
    split at h
    · injection h with h; subst h
      intro x m
      rcases List.mem_cons.mp m with e | m
      · exact .inl e
      · exact .inr ((List.pairwise_cons.mp i.1).1 x m)
    · cases h
  · cases h

/-- A queue without a due head has no due entry. -/
theorem dueHead_none {now : Nat} {q : List (Nat × Nat)} (i : QueueInv q) (h : dueHead now q = none) :
    ∀ x ∈ q, now < x.1 := by
  unfold dueHead at h
  split at h
  · rename_i y r
    split at h
    · cases h
    · rename_i w
      intro x m
      rcases List.mem_cons.mp m with e | m
      · subst e; omega
      · have l := (List.pairwise_cons.mp i.1).1 x m
        unfold queueLt at l
        omega
  · intro x m; cases m

/-! ### The service of a channel's queue (R63, R68) -/

/-- The bad requests at the head of a queue and the queue behind them, whose head is good. -/
theorem splitBad_spec : ∀ q : List Request, ∃ bads : List (Request × Reason),
    q = bads.map (fun b => b.1) ++ (splitBad q).2 ∧ (∀ b ∈ bads, b.1.bad = some b.2)
    ∧ (splitBad q).1 = bads.map (fun b => badAnswer b.1.tag b.2) ∧ ∀ r ∈ (splitBad q).2.head?, r.bad = none
  | [] => ⟨[], rfl, by simp, rfl, by simp [splitBad]⟩
  | r :: q => by
    obtain ⟨bads, e, b, a, g⟩ := splitBad_spec q
    rcases h : r.bad with _ | why
    · exact ⟨[], by simp [splitBad, h], by simp, by simp [splitBad, h], by simp [splitBad, h]⟩
    · refine ⟨(r, why) :: bads, ?_, ?_, ?_, ?_⟩
      · simp only [splitBad, h, List.map_cons, List.cons_append]; rw [← e]
      · intro x m
        rcases List.mem_cons.mp m with rfl | m
        · exact h
        · exact b x m
      · simp [splitBad, h, a]
      · simpa [splitBad, h] using g

/-- Every request of a queue is answered or stays. -/
theorem splitBad_length (q : List Request) : (splitBad q).1.length + (splitBad q).2.length = q.length := by
  induction q with
  | nil => rfl
  | cons r q ih =>
    rcases h : r.bad with _ | why
    · simp [splitBad, h]
    · simp only [splitBad, h, List.length_cons]; omega

/-- A queue that is not served is left as it is. -/
theorem State.serve_skip {c : Fin 4} (h : (s.chan c).serving = false ∨ s.atTable (.lc c) = true) : s.serve c = s := by
  unfold State.serve
  rw [if_neg]
  rcases h with h | h <;> simp [h]

/-! ### Pending long commands (R74, R174, R175, R177) -/

/-- A CLOSE that is not pending completes nothing. -/
theorem State.endClose_none {c : Fin 4} {st : Status} (h : (s.chan c).closePending = none) : s.endClose c st = s := by
  simp [State.endClose, h]

/-- A pending CLOSE completes. -/
theorem State.endClose_some {c : Fin 4} {st : Status} {tag : BitVec 16} (h : (s.chan c).closePending = some tag) :
    s.endClose c st =
      (s.setChan c { s.chan c with closePending := none }).post tag 6#8 st (s.channelResults c 2) := by
  simp [State.endClose, h]

/-- A SWEEP that is not pending completes nothing. -/
theorem State.endSweep_none {st : Status} (h : s.sweep.pendingSweep = none) : s.endSweep st = s := by
  simp [State.endSweep, h]

/-- A pending SWEEP completes. -/
theorem State.endSweep_some {st : Status} {tag : BitVec 16} (h : s.sweep.pendingSweep = some tag) : s.endSweep st =
    ({ s with sweep := { s.sweep with pendingSweep := none } } : State).post tag 20#8 st s.sweepResults := by
  simp [State.endSweep, h]

/-- A SWEEP_SUSPEND that is not pending completes nothing. -/
theorem State.endSuspend_none {st : Status} (h : s.sweep.pendingSuspend = none) : s.endSuspend st = s := by
  simp [State.endSuspend, h]

/-- A pending SWEEP_SUSPEND completes. -/
theorem State.endSuspend_some {st : Status} {tag : BitVec 16} (h : s.sweep.pendingSuspend = some tag) :
    s.endSuspend st =
      ({ s with sweep := { s.sweep with pendingSuspend := none } } : State).post tag 21#8 st s.sweepResults := by
  simp [State.endSuspend, h]

/-- The mark on an abandoned operation. -/
theorem State.abandon_eq (r : Requester) : s.abandon r = { s with
    opAtTable := s.opAtTable.map (fun op => { op with abandoned := op.abandoned || decide (op.requester = r) }) } := by
  unfold State.abandon
  rcases h : s.opAtTable with _ | op
  · simp; rw [← h]
  · by_cases e : op.requester = r
    · simp [e]
    · simp [e]; rw [← h]

end Sys2Proof.Machine
end

