-- ==== Sys2Proof/Laws/Memory.lean ====
section
/-! SUPPORT. The laws of the sparse stores: a read after a write, the canonical form kept by every write, and the byte
fields that the window stores and loads. -/

namespace Sys2Proof.Machine

variable {α : Type}

/-! ### Pairs -/

theorem cellGet_filter (d : α) (m : List (Nat × α)) (n k : Nat) :
    cellGet d (m.filter (fun p => p.1 ≠ n)) k = if k = n then d else cellGet d m k := by
  induction m with
  | nil => simp [cellGet]
  | cons p m ih =>
    obtain ⟨a, v⟩ := p
    by_cases ha : a = n
    · subst ha
      by_cases hk : k = a
      · subst hk; simpa using ih
      · simpa [cellGet, hk] using ih
    · simp only [List.filter_cons, ne_eq, ha, not_false_eq_true, decide_true, if_true, cellGet]
      by_cases hk : k = a
      · subst hk; simp [ha]
      · simpa [hk] using ih

theorem cellGet_insert (d : α) (m : List (Nat × α)) (n k : Nat) (v : α) (h : ∀ p ∈ m, p.1 ≠ n) :
    cellGet d (cellInsert n v m) k = if k = n then v else cellGet d m k := by
  induction m with
  | nil => simp [cellInsert, cellGet]
  | cons p m ih =>
    obtain ⟨a, w⟩ := p
    simp only [cellInsert]
    split
    · simp [cellGet]
    · have ih := ih (fun p hp => h p (List.mem_cons_of_mem _ hp))
      have ha : a ≠ n := h (a, w) (by simp)
      simp only [cellGet, ih]
      by_cases hk : k = n
      · subst hk; simp [ha.symm]
      · by_cases hk' : k = a
        · simp [hk', ha]
        · simp [hk, hk']

/-- A read after a write: the written key gives the written value, every other key what it gave before. -/
theorem cellGet_set [DecidableEq α] (d : α) (m : List (Nat × α)) (n k : Nat) (v : α) :
    cellGet d (cellSet d m n v) k = if k = n then v else cellGet d m k := by
  unfold cellSet
  split
  · rename_i hv; subst hv; exact cellGet_filter ..
  · rw [cellGet_insert]
    · rw [cellGet_filter]; split <;> simp_all
    · intro p hp; simpa using (List.mem_filter.1 hp).2

@[simp] theorem cellGet_set_same [DecidableEq α] (d : α) (m : List (Nat × α)) (n : Nat) (v : α) :
    cellGet d (cellSet d m n v) n = v := by simp [cellGet_set]

theorem cellGet_set_other [DecidableEq α] (d : α) (m : List (Nat × α)) (n k : Nat) (v : α) (h : k ≠ n) :
    cellGet d (cellSet d m n v) k = cellGet d m k := by simp [cellGet_set, h]

theorem mem_cellInsert (n : Nat) (v : α) (m : List (Nat × α)) (p : Nat × α) :
    p ∈ cellInsert n v m ↔ p = (n, v) ∨ p ∈ m := by
  induction m with
  | nil => simp [cellInsert]
  | cons q m ih =>
    obtain ⟨a, w⟩ := q
    simp only [cellInsert]
    split
    · simp
    · simp only [List.mem_cons, ih]; tauto

theorem cellInsert_pairwise (n : Nat) (v : α) (m : List (Nat × α))
    (h : m.Pairwise (fun p q => p.1 < q.1)) (hn : ∀ p ∈ m, p.1 ≠ n) :
    (cellInsert n v m).Pairwise (fun p q => p.1 < q.1) := by
  induction m with
  | nil => simp [cellInsert]
  | cons q m ih =>
    obtain ⟨a, w⟩ := q
    obtain ⟨h1, h2⟩ := List.pairwise_cons.1 h
    have ha : a ≠ n := hn (a, w) (by simp)
    simp only [cellInsert]
    split
    · rename_i hlt
      refine List.pairwise_cons.2 ⟨fun p hp => ?_, h⟩
      rcases List.mem_cons.1 hp with rfl | hp
      · exact hlt
      · exact Nat.lt_trans hlt (h1 p hp)
    · refine List.pairwise_cons.2 ⟨fun p hp => ?_, ih h2 (fun p hp => hn p (by simp [hp]))⟩
      rcases (mem_cellInsert n v m p).1 hp with rfl | hp
      · show a < n; omega
      · exact h1 p hp

/-- A write keeps the canonical form. -/
theorem cellSet_wf [DecidableEq α] (d : α) (m : List (Nat × α)) (n : Nat) (v : α) (h : cellsWf d m) :
    cellsWf d (cellSet d m n v) := by
  have hf : cellsWf d (m.filter (fun p => p.1 ≠ n)) :=
    ⟨h.1.filter _, fun p hp => h.2 p (List.mem_filter.1 hp).1⟩
  unfold cellSet
  split
  · exact hf
  · rename_i hv
    refine ⟨cellInsert_pairwise n v _ hf.1 (fun p hp => by simpa using (List.mem_filter.1 hp).2), fun p hp => ?_⟩
    rcases (mem_cellInsert n v _ p).1 hp with rfl | hp
    · exact hv
    · exact hf.2 p hp

theorem mem_of_mem_cellSet [DecidableEq α] (d : α) (m : List (Nat × α)) (n : Nat) (v : α) (p : Nat × α)
    (h : p ∈ cellSet d m n v) : p = (n, v) ∨ p ∈ m := by
  unfold cellSet at h
  split at h
  · exact .inr (List.mem_filter.1 h).1
  · rcases (mem_cellInsert n v _ p).1 h with h | h
    · exact .inl h
    · exact .inr (List.mem_filter.1 h).1

/-- In the canonical form a listed pair is what its key reads as. -/
theorem cellGet_of_mem (d : α) (m : List (Nat × α)) (h : m.Pairwise (fun p q => p.1 < q.1)) (p : Nat × α)
    (hp : p ∈ m) : cellGet d m p.1 = p.2 := by
  induction m with
  | nil => simp at hp
  | cons q m ih =>
    obtain ⟨a, w⟩ := q
    obtain ⟨h1, h2⟩ := List.pairwise_cons.1 h
    rcases List.mem_cons.1 hp with rfl | hp
    · simp [cellGet]
    · have hlt := h1 p hp
      have : p.1 ≠ a := Nat.ne_of_gt hlt
      simp only [cellGet, this, if_false, ih h2 hp]

/-- A key that does not read as the default is listed. -/
theorem mem_of_cellGet_ne (d : α) (m : List (Nat × α)) (n : Nat) (h : cellGet d m n ≠ d) :
    (n, cellGet d m n) ∈ m := by
  induction m with
  | nil => simp [cellGet] at h
  | cons q m ih =>
    obtain ⟨a, w⟩ := q
    by_cases hn : n = a
    · subst hn; simp [cellGet]
    · simp only [cellGet, hn, if_false] at h ⊢
      exact List.mem_cons_of_mem _ (ih h)

/-- Two stores in canonical form that read alike are the same list. -/
theorem cells_ext (d : α) [DecidableEq α] (m m' : List (Nat × α)) (h : cellsWf d m) (h' : cellsWf d m')
    (e : ∀ n, cellGet d m n = cellGet d m' n) : m = m' := by
  have mem : ∀ (a b : List (Nat × α)), cellsWf d a → (∀ n, cellGet d a n = cellGet d b n) → ∀ p ∈ a, p ∈ b := by
    intro a b ha hab p hp
    have hg := cellGet_of_mem d a ha.1 p hp
    have hne : cellGet d b p.1 ≠ d := by rw [← hab, hg]; exact ha.2 p hp
    have := mem_of_cellGet_ne d b p.1 hne
    rwa [← hab, hg] at this
  have hperm : m.Perm m' := by
    refine (List.perm_ext_iff_of_nodup ?_ ?_).2 (fun p => ⟨mem m m' h e p, mem m' m h' (fun n => (e n).symm) p⟩)
    · exact h.1.imp (fun hlt he => by subst he; omega)
    · exact h'.1.imp (fun hlt he => by subst he; omega)
  exact hperm.eq_of_pairwise (fun p q _ _ h1 h2 => by omega) h.1 h'.1

/-! ### Bytes of the window -/

theorem loadByte_storeByte (m : List Host.Cell) (off o : Nat) (b : Byte) :
    loadByte (storeByte m off b) o = if o = off then b else loadByte m o := cellGet_set ..

theorem storeByte_wf (m : List Host.Cell) (off : Nat) (b : Byte) (h : cellsWf 0#8 m) :
    cellsWf 0#8 (storeByte m off b) := cellSet_wf _ _ _ _ h

/-- Storing a field keeps the canonical form. -/
theorem storeLE_wf (n : Nat) : ∀ (m : List Host.Cell) (off v : Nat), cellsWf 0#8 m →
    cellsWf 0#8 (storeLE m off n v) := by
  induction n with
  | zero => intro m off v h; exact h
  | succ n ih => intro m off v h; exact ih _ _ _ (storeByte_wf _ _ _ h)

/-- Every byte after a field was stored: a byte of the field, or what stood there (R179). -/
theorem loadByte_storeLE (n : Nat) : ∀ (m : List Host.Cell) (off v o : Nat),
    loadByte (storeLE m off n v) o =
      if off ≤ o ∧ o < off + n then BitVec.ofNat 8 (v / 256 ^ (o - off)) else loadByte m o := by
  induction n with
  | zero => intro m off v o; simp [storeLE]
  | succ n ih =>
    intro m off v o
    rw [storeLE, ih]
    by_cases h1 : off + 1 ≤ o ∧ o < off + 1 + n
    · rw [if_pos h1, if_pos (by omega)]
      have : o - off = (o - (off + 1)) + 1 := by omega
      rw [this, Nat.pow_succ, Nat.mul_comm, ← Nat.div_div_eq_div_mul]
    · rw [if_neg h1, loadByte_storeByte]
      by_cases h2 : o = off
      · subst h2; simp
      · rw [if_neg h2, if_neg (by omega)]

/-- A field loaded from bytes that are those of a number is that number (R179). -/
theorem loadLE_eq (n : Nat) : ∀ (m : List Host.Cell) (off v : Nat),
    (∀ i, i < n → loadByte m (off + i) = BitVec.ofNat 8 (v / 256 ^ i)) → loadLE m off n = v % 256 ^ n := by
  induction n with
  | zero => intro m off v _; simp [loadLE, Nat.mod_one]
  | succ n ih =>
    intro m off v h
    have h0 := h 0 (by omega)
    have ih := ih m (off + 1) (v / 256) (fun i hi => by
      have := h (i + 1) (by omega)
      rw [show off + 1 + i = off + (i + 1) by omega, this, Nat.pow_succ, Nat.mul_comm (256 ^ i),
        ← Nat.div_div_eq_div_mul])
    simp only [loadLE, ih, Nat.add_zero, Nat.pow_zero, Nat.div_one] at h0 ⊢
    rw [h0, Nat.pow_succ, Nat.mul_comm (256 ^ n) 256, Nat.mod_mul]
    simp

/-- A field read back after it was stored (R179). -/
theorem loadLE_storeLE (m : List Host.Cell) (off n v : Nat) :
    loadLE (storeLE m off n v) off n = v % 256 ^ n := by
  refine loadLE_eq n _ _ _ (fun i hi => ?_)
  rw [loadByte_storeLE, if_pos ⟨Nat.le_add_right .., Nat.add_lt_add_left hi off⟩, Nat.add_sub_cancel_left]

/-- A field loaded from bytes that agree is the same. -/
theorem loadLE_congr (n : Nat) : ∀ (m m' : List Host.Cell) (off : Nat),
    (∀ i, i < n → loadByte m (off + i) = loadByte m' (off + i)) → loadLE m off n = loadLE m' off n := by
  induction n with
  | zero => intro m m' off _; rfl
  | succ n ih =>
    intro m m' off h
    have h0 := h 0 (by omega)
    simp only [Nat.add_zero] at h0
    rw [loadLE, loadLE, h0, ih m m' (off + 1) (fun i hi => by
      have := h (i + 1) (by omega)
      rwa [show off + 1 + i = off + (i + 1) by omega])]

/-- The machine after reset has its stores in canonical form. -/
theorem reset_memory_wf : Memory.wf State.reset := by
  simp [Memory.wf, cellsWf, State.reset, Port.powerOn, FlowTable.initial]

end Sys2Proof.Machine
end

