-- ==== Sys2Proof/Laws/Table.lean ====
section
/-! SUPPORT. The laws of the flow table: directory entries, bodies and error marks after every shared operation, the counts,
the ordered queues, and what search and placement answer. -/

namespace Sys2Proof.Machine

variable (t : FlowTable) (h k : Nat)

/-! ### Slots after a write -/

theorem FlowTable.slot_setSlot (x : Slot) : (t.setSlot h x).slot k = if k = h then x else t.slot k :=
  cellGet_set ..

theorem FlowTable.setSlot_wf (x : Slot) (w : cellsWf Slot.powerOn t.slots) :
    cellsWf Slot.powerOn (t.setSlot h x).slots := cellSet_wf _ _ _ _ w

theorem FlowTable.dir_setDir (e : DirEntry) : (t.setDir h e).dir k = if k = h then e else t.dir k := by
  simp only [FlowTable.dir, FlowTable.setDir, FlowTable.slot_setSlot]; split <;> rfl

@[simp] theorem FlowTable.body_setDir (e : DirEntry) : (t.setDir h e).body k = t.body k := by
  simp only [FlowTable.body, FlowTable.setDir, FlowTable.slot_setSlot]; split <;> simp_all

@[simp] theorem FlowTable.bad_setDir (e : DirEntry) : (t.setDir h e).bad k = t.bad k := by
  simp only [FlowTable.bad, FlowTable.setDir, FlowTable.slot_setSlot]; split <;> simp_all

@[simp] theorem FlowTable.dir_modifyBody (f : Body → Body) : (t.modifyBody h f).dir k = t.dir k := by
  simp only [FlowTable.dir, FlowTable.modifyBody, FlowTable.slot_setSlot]; split <;> simp_all

theorem FlowTable.body_modifyBody (f : Body → Body) :
    (t.modifyBody h f).body k = if k = h then f (t.body h) else t.body k := by
  simp only [FlowTable.body, FlowTable.modifyBody, FlowTable.slot_setSlot]; split <;> rfl

@[simp] theorem FlowTable.bad_modifyBody (f : Body → Body) : (t.modifyBody h f).bad k = t.bad k := by
  simp only [FlowTable.bad, FlowTable.modifyBody, FlowTable.slot_setSlot]; split <;> simp_all

/-- The three parts of a slot determine it. -/
theorem FlowTable.slot_ext {t t' : FlowTable} {h : Nat} (a : t.dir h = t'.dir h) (b : t.body h = t'.body h)
    (c : t.bad h = t'.bad h) : t.slot h = t'.slot h := by
  unfold FlowTable.dir FlowTable.body FlowTable.bad at *
  cases x : t.slot h; cases y : t'.slot h; simp_all

/-! ### The canonical form kept -/

theorem FlowTable.setDir_wf (e : DirEntry) (w : cellsWf Slot.powerOn t.slots) :
    cellsWf Slot.powerOn (t.setDir h e).slots := cellSet_wf _ _ _ _ w

theorem FlowTable.modifyBody_wf (f : Body → Body) (w : cellsWf Slot.powerOn t.slots) :
    cellsWf Slot.powerOn (t.modifyBody h f).slots := cellSet_wf _ _ _ _ w

theorem FlowTable.arm_wf (x : Nat) (w : cellsWf Slot.powerOn t.slots) : cellsWf Slot.powerOn (t.arm h x).slots := by
  unfold FlowTable.arm; rw [FlowTable.setExpiryQ_slots]; exact t.modifyBody_wf h _ w

theorem FlowTable.disarm_wf (w : cellsWf Slot.powerOn t.slots) : cellsWf Slot.powerOn (t.disarm h).slots := by
  unfold FlowTable.disarm; rw [FlowTable.setExpiryQ_slots]; exact t.modifyBody_wf h _ w

theorem FlowTable.enterHold_wf (x : Nat) (w : cellsWf Slot.powerOn t.slots) :
    cellsWf Slot.powerOn (t.enterHold h x).slots := by
  unfold FlowTable.enterHold; rw [FlowTable.setHoldQ_slots]; exact t.modifyBody_wf h _ w

theorem FlowTable.leaveHold_wf (w : cellsWf Slot.powerOn t.slots) : cellsWf Slot.powerOn (t.leaveHold h).slots := by
  unfold FlowTable.leaveHold; rw [FlowTable.setHoldQ_slots]; exact t.modifyBody_wf h _ w

theorem FlowTable.unlist_wf (w : cellsWf Slot.powerOn t.slots) : cellsWf Slot.powerOn (t.unlist h).slots := w

theorem FlowTable.unreport_wf (w : cellsWf Slot.powerOn t.slots) : cellsWf Slot.powerOn (t.unreport h).slots :=
  t.modifyBody_wf h _ w

theorem FlowTable.setClosed_wf (l : List Nat) (w : cellsWf Slot.powerOn t.slots) :
    cellsWf Slot.powerOn (t.setClosed l).slots := w

/-! ### What leaves slots alone -/

@[simp] theorem FlowTable.dir_setCount (d : Fin 16) (n : Nat) : (t.setCount d n).dir k = t.dir k := rfl

@[simp] theorem FlowTable.body_setCount (d : Fin 16) (n : Nat) : (t.setCount d n).body k = t.body k := rfl

@[simp] theorem FlowTable.bad_setCount (d : Fin 16) (n : Nat) : (t.setCount d n).bad k = t.bad k := rfl

@[simp] theorem FlowTable.dir_setLearned (l : List Nat) : (t.setLearned l).dir k = t.dir k := rfl

@[simp] theorem FlowTable.body_setLearned (l : List Nat) : (t.setLearned l).body k = t.body k := rfl

@[simp] theorem FlowTable.bad_setLearned (l : List Nat) : (t.setLearned l).bad k = t.bad k := rfl

@[simp] theorem FlowTable.dir_setClosed (l : List Nat) : (t.setClosed l).dir k = t.dir k := rfl

@[simp] theorem FlowTable.body_setClosed (l : List Nat) : (t.setClosed l).body k = t.body k := rfl

@[simp] theorem FlowTable.bad_setClosed (l : List Nat) : (t.setClosed l).bad k = t.bad k := rfl

@[simp] theorem FlowTable.dir_setExpiryQ (q : List (Nat × Nat)) : (t.setExpiryQ q).dir k = t.dir k := rfl

@[simp] theorem FlowTable.body_setExpiryQ (q : List (Nat × Nat)) : (t.setExpiryQ q).body k = t.body k := rfl

@[simp] theorem FlowTable.bad_setExpiryQ (q : List (Nat × Nat)) : (t.setExpiryQ q).bad k = t.bad k := rfl

@[simp] theorem FlowTable.dir_setHoldQ (q : List (Nat × Nat)) : (t.setHoldQ q).dir k = t.dir k := rfl

@[simp] theorem FlowTable.body_setHoldQ (q : List (Nat × Nat)) : (t.setHoldQ q).body k = t.body k := rfl

@[simp] theorem FlowTable.bad_setHoldQ (q : List (Nat × Nat)) : (t.setHoldQ q).bad k = t.bad k := rfl

@[simp] theorem FlowTable.dir_unlist : (t.unlist h).dir k = t.dir k := rfl

@[simp] theorem FlowTable.body_unlist : (t.unlist h).body k = t.body k := rfl

@[simp] theorem FlowTable.bad_unlist : (t.unlist h).bad k = t.bad k := rfl

@[simp] theorem FlowTable.count_setSlot (x : Slot) (d' : Fin 16) : (t.setSlot h x).count d' = t.count d' := rfl

@[simp] theorem FlowTable.count_setDir (e : DirEntry) (d' : Fin 16) : (t.setDir h e).count d' = t.count d' := rfl

@[simp] theorem FlowTable.count_modifyBody (f : Body → Body) (d' : Fin 16) : (t.modifyBody h f).count d' = t.count d' := rfl

@[simp] theorem FlowTable.count_setLearned (l : List Nat) (d' : Fin 16) : (t.setLearned l).count d' = t.count d' := rfl

@[simp] theorem FlowTable.count_setClosed (l : List Nat) (d' : Fin 16) : (t.setClosed l).count d' = t.count d' := rfl

@[simp] theorem FlowTable.count_setExpiryQ (q : List (Nat × Nat)) (d' : Fin 16) : (t.setExpiryQ q).count d' = t.count d' := rfl

@[simp] theorem FlowTable.count_setHoldQ (q : List (Nat × Nat)) (d' : Fin 16) : (t.setHoldQ q).count d' = t.count d' := rfl

@[simp] theorem FlowTable.count_unlist (d' : Fin 16) : (t.unlist h).count d' = t.count d' := rfl

/-! ### Arming, holds and lists -/

@[simp] theorem FlowTable.dir_arm (w : Nat) : (t.arm h w).dir k = t.dir k := by simp [FlowTable.arm]

@[simp] theorem FlowTable.bad_arm (w : Nat) : (t.arm h w).bad k = t.bad k := by simp [FlowTable.arm]

theorem FlowTable.body_arm (w : Nat) : (t.arm h w).body k =
    if k = h then { t.body h with deadline := some w } else t.body k := by
  simp [FlowTable.arm, FlowTable.body_modifyBody]

@[simp] theorem FlowTable.dir_disarm : (t.disarm h).dir k = t.dir k := by simp [FlowTable.disarm]

@[simp] theorem FlowTable.bad_disarm : (t.disarm h).bad k = t.bad k := by simp [FlowTable.disarm]

theorem FlowTable.body_disarm : (t.disarm h).body k =
    if k = h then { t.body h with deadline := none } else t.body k := by
  simp [FlowTable.disarm, FlowTable.body_modifyBody]

@[simp] theorem FlowTable.dir_armLease (now i : Nat) : (t.armLease h now i).dir k = t.dir k := by
  unfold FlowTable.armLease; split <;> simp

@[simp] theorem FlowTable.bad_armLease (now i : Nat) : (t.armLease h now i).bad k = t.bad k := by
  unfold FlowTable.armLease; split <;> simp

theorem FlowTable.body_armLease (now i : Nat) : (t.armLease h now i).body k =
    if k = h then { t.body h with deadline := if i > 0 then some (clampTime now i) else none } else t.body k := by
  unfold FlowTable.armLease; split <;> simp [FlowTable.body_arm, FlowTable.body_disarm]

theorem FlowTable.armLease_expiryQ (now i : Nat) : (t.armLease h now i).expiryQ =
    if i > 0 then queueInsert (clampTime now i) h (queueRemove h t.expiryQ) else queueRemove h t.expiryQ := by
  unfold FlowTable.armLease; split <;> rfl

@[simp] theorem FlowTable.dir_refresh (now : Nat) : (t.refresh h now).dir k = t.dir k := by
  unfold FlowTable.refresh; split <;> simp

@[simp] theorem FlowTable.bad_refresh (now : Nat) : (t.refresh h now).bad k = t.bad k := by
  unfold FlowTable.refresh; split <;> simp

theorem FlowTable.body_refresh (now : Nat) : (t.refresh h now).body k =
    if k = h ∧ (t.body h).leaseInterval > 0 then
      { t.body h with deadline := some (clampTime now (t.body h).leaseInterval) }
    else t.body k := by
  unfold FlowTable.refresh; split <;> simp_all [FlowTable.body_arm]

theorem FlowTable.refresh_expiryQ (now : Nat) : (t.refresh h now).expiryQ =
    if (t.body h).leaseInterval > 0 then
      queueInsert (clampTime now (t.body h).leaseInterval) h (queueRemove h t.expiryQ)
    else t.expiryQ := by
  unfold FlowTable.refresh; split <;> rfl

@[simp] theorem FlowTable.dir_enterHold (w : Nat) : (t.enterHold h w).dir k = t.dir k := by simp [FlowTable.enterHold]

@[simp] theorem FlowTable.bad_enterHold (w : Nat) : (t.enterHold h w).bad k = t.bad k := by simp [FlowTable.enterHold]

theorem FlowTable.body_enterHold (w : Nat) : (t.enterHold h w).body k =
    if k = h then { t.body h with holdEnd := some w } else t.body k := by
  simp [FlowTable.enterHold, FlowTable.body_modifyBody]

@[simp] theorem FlowTable.dir_leaveHold : (t.leaveHold h).dir k = t.dir k := by simp [FlowTable.leaveHold]

@[simp] theorem FlowTable.bad_leaveHold : (t.leaveHold h).bad k = t.bad k := by simp [FlowTable.leaveHold]

theorem FlowTable.body_leaveHold : (t.leaveHold h).body k =
    if k = h then { t.body h with holdEnd := none } else t.body k := by
  simp [FlowTable.leaveHold, FlowTable.body_modifyBody]

@[simp] theorem FlowTable.dir_unreport : (t.unreport h).dir k = t.dir k := by simp [FlowTable.unreport]

@[simp] theorem FlowTable.bad_unreport : (t.unreport h).bad k = t.bad k := by simp [FlowTable.unreport]

theorem FlowTable.body_unreport : (t.unreport h).body k =
    if k = h then { t.body h with reported := none } else t.body k := by
  simp [FlowTable.unreport, FlowTable.body_modifyBody]

/-! ### Counts -/

theorem FlowTable.count_setCount (d d' : Fin 16) (n : Nat) :
    (t.setCount d n).count d' = if d' = d then n else t.count d' := by
  simp only [FlowTable.setCount, FlowTable.count]
  split
  · rename_i e; subst e; simp
  · rename_i e
    have : d.val ≠ d'.val := fun x => e (Fin.ext x.symm)
    simp [this]

/-- A table with the same counts counts alike. -/
theorem FlowTable.count_congr {t t' : FlowTable} (e : t.counts = t'.counts) (d : Fin 16) : t.count d = t'.count d := by
  simp [FlowTable.count, e]

/-! ### The ordered queues (R104, R113) -/

theorem mem_queueRemove (q : List (Nat × Nat)) (p : Nat × Nat) : p ∈ queueRemove h q ↔ p ∈ q ∧ p.2 ≠ h := by
  simp [queueRemove]

theorem mem_queueInsert (w : Nat) (q : List (Nat × Nat)) (p : Nat × Nat) :
    p ∈ queueInsert w h q ↔ p = (w, h) ∨ p ∈ q := by
  induction q with
  | nil => simp [queueInsert]
  | cons a q ih =>
    simp only [queueInsert]
    split
    · simp
    · simp only [List.mem_cons, ih]; tauto

/-- The entry of another handle keeps its time when a handle is removed. -/
theorem queueTime_remove (q : List (Nat × Nat)) :
    queueTime k (queueRemove h q) = if k = h then none else queueTime k q := by
  induction q with
  | nil => simp [queueTime, queueRemove]
  | cons p q ih =>
    simp only [queueTime, queueRemove] at ih ⊢
    by_cases hp : p.2 = h <;> by_cases hk : p.2 = k <;> by_cases e : k = h <;> simp_all

/-- A handle inserted stands under its time; the others keep theirs. -/
theorem queueTime_insert (w : Nat) (q : List (Nat × Nat)) (hn : ∀ p ∈ q, p.2 ≠ h) :
    queueTime k (queueInsert w h q) = if k = h then some w else queueTime k q := by
  induction q with
  | nil => by_cases e : h = k <;> simp [queueTime, queueInsert, e, eq_comm]
  | cons p q ih =>
    have ih := ih (fun p hp => hn p (List.mem_cons_of_mem _ hp))
    have hp : p.2 ≠ h := hn p (by simp)
    simp only [queueInsert]
    split
    · by_cases e : k = h <;> simp_all [queueTime, eq_comm]
    · simp only [queueTime, List.find?_cons] at ih ⊢
      by_cases e : p.2 = k
      · have : k ≠ h := e ▸ hp
        simp [e, this]
      · simpa [e] using ih

/-- Every handle's time after an arming: the queue's other entries are untouched (R105). -/
theorem queueTime_rearm (w : Nat) (q : List (Nat × Nat)) :
    queueTime k (queueInsert w h (queueRemove h q)) = if k = h then some w else queueTime k q := by
  rw [queueTime_insert _ _ _ _ (fun p hp => ((mem_queueRemove h q p).1 hp).2), queueTime_remove]
  split <;> rfl

/-- A queue without a handle stays in order. -/
theorem queueRemove_inv (q : List (Nat × Nat)) (i : q.Pairwise (fun a b => a.1 < b.1 ∨ (a.1 = b.1 ∧ a.2 < b.2)))
    (n : (q.map (fun p => p.2)).Nodup) :
    (queueRemove h q).Pairwise (fun a b => a.1 < b.1 ∨ (a.1 = b.1 ∧ a.2 < b.2))
      ∧ ((queueRemove h q).map (fun p => p.2)).Nodup :=
  ⟨i.filter _, n.sublist (List.Sublist.map _ List.filter_sublist)⟩

/-- A queue stays in order when an entry is put in for a handle that has none. -/
theorem queueInsert_inv (w : Nat) (q : List (Nat × Nat))
    (i : q.Pairwise (fun a b => a.1 < b.1 ∨ (a.1 = b.1 ∧ a.2 < b.2))) (n : (q.map (fun p => p.2)).Nodup)
    (hn : ∀ p ∈ q, p.2 ≠ h) :
    (queueInsert w h q).Pairwise (fun a b => a.1 < b.1 ∨ (a.1 = b.1 ∧ a.2 < b.2))
      ∧ ((queueInsert w h q).map (fun p => p.2)).Nodup := by
  induction q with
  | nil => simp [queueInsert]
  | cons p q ih =>
    obtain ⟨i1, i2⟩ := List.pairwise_cons.1 i
    obtain ⟨n1, n2⟩ := List.nodup_cons.1 (by simpa using n : (p.2 :: q.map (fun p => p.2)).Nodup)
    have hp : p.2 ≠ h := hn p (by simp)
    obtain ⟨a, b⟩ := ih i2 n2 (fun p hp => hn p (List.mem_cons_of_mem _ hp))
    simp only [queueInsert]
    split
    · rename_i lt
      refine ⟨List.pairwise_cons.2 ⟨fun x hx => ?_, i⟩, ?_⟩
      · rcases List.mem_cons.1 hx with rfl | hx
        · exact lt
        · have := i1 x hx; show w < x.1 ∨ _; dsimp only; omega
      · simp only [List.map_cons, List.nodup_cons]
        refine ⟨?_, by simpa using n⟩
        simp only [List.mem_cons, List.mem_map, not_or]
        exact ⟨fun e => hp e.symm, fun ⟨x, hx, e⟩ => hn x (List.mem_cons_of_mem _ hx) e⟩
    · rename_i lt
      refine ⟨List.pairwise_cons.2 ⟨fun x hx => ?_, a⟩, ?_⟩
      · rcases (mem_queueInsert h w q x).1 hx with rfl | hx
        · dsimp only; omega
        · exact i1 x hx
      · simp only [List.map_cons, List.nodup_cons]
        refine ⟨fun hm => ?_, b⟩
        obtain ⟨x, hx, e⟩ := List.mem_map.1 hm
        rcases (mem_queueInsert h w q x).1 hx with rfl | hx
        · exact hp e.symm
        · exact n1 (e ▸ List.mem_map_of_mem hx)

/-! ### Damage (R34) -/

/-- Damage writes one directory entry: CLOSING with reason DAMAGED. -/
theorem FlowTable.dir_damage : (t.damage h).dir k =
    if k = h then { t.dir h with state := .closing, closeReason := some .damaged } else t.dir k := by
  simp [FlowTable.damage, FlowTable.dir_setDir]

/-- Damage makes the deadline, the hold end and the reported field of one body absent. -/
theorem FlowTable.body_damage : (t.damage h).body k =
    if k = h then { t.body h with deadline := none, holdEnd := none, reported := none } else t.body k := by
  simp only [FlowTable.damage, FlowTable.body_setClosed, FlowTable.body_setDir, FlowTable.body_unreport,
    FlowTable.body_unlist, FlowTable.body_leaveHold, FlowTable.body_disarm]
  split <;> simp_all

@[simp] theorem FlowTable.bad_damage : (t.damage h).bad k = t.bad k := by simp [FlowTable.damage]

theorem FlowTable.damage_wf (w : cellsWf Slot.powerOn t.slots) : cellsWf Slot.powerOn (t.damage h).slots :=
  FlowTable.setClosed_wf _ _ (FlowTable.setDir_wf _ _ _ (FlowTable.unreport_wf _ _ (FlowTable.unlist_wf _ _
    (FlowTable.leaveHold_wf _ _ (t.disarm_wf h w)))))

/-! ### Freeing (R15) -/

/-- Freeing writes one directory entry: FREE at the next generation, no close reason, its domain kept. -/
theorem FlowTable.dir_free : (t.free h).dir k =
    if k = h then { t.dir h with
      state := .free, generation := (t.dir h).generation + 1#8, closeReason := none }
    else t.dir k := by
  simp [FlowTable.free, FlowTable.dir_setDir]

@[simp] theorem FlowTable.body_free : (t.free h).body k = t.body k := by simp [FlowTable.free]

@[simp] theorem FlowTable.bad_free : (t.free h).bad k = t.bad k := by simp [FlowTable.free]

/-- The count of the freed record's domain falls by 1; the others stay. -/
theorem FlowTable.count_free (d : Fin 16) :
    (t.free h).count d = if d = (t.dir h).domain then t.count d - 1 else t.count d := by
  simp only [FlowTable.free, FlowTable.count_setClosed, FlowTable.count_setLearned, FlowTable.count_setHoldQ,
    FlowTable.count_setExpiryQ, FlowTable.count_setCount, FlowTable.count_setDir]
  split <;> simp_all

theorem FlowTable.free_wf (w : cellsWf Slot.powerOn t.slots) : cellsWf Slot.powerOn (t.free h).slots :=
  FlowTable.setSlot_wf t h _ w

/-! ### Closing (R130, R43) -/

@[simp] theorem FlowTable.close_auto (r : CloseReason) : t.close h r true = t.free h := rfl

/-- A closing without auto-release writes one directory entry: CLOSING with the reason. -/
theorem FlowTable.dir_close (r : CloseReason) : (t.close h r false).dir k =
    if k = h then { t.dir h with state := .closing, closeReason := some r } else t.dir k := by
  simp [FlowTable.close, FlowTable.dir_setDir]

/-- A closing makes the deadline and the hold end of one body absent. -/
theorem FlowTable.body_close (r : CloseReason) : (t.close h r false).body k =
    if k = h then { t.body h with deadline := none, holdEnd := none } else t.body k := by
  simp only [FlowTable.close, Bool.false_eq_true, if_false, FlowTable.body_setClosed, FlowTable.body_setDir,
    FlowTable.body_leaveHold, FlowTable.body_disarm]
  split <;> simp_all

@[simp] theorem FlowTable.bad_close (r : CloseReason) : (t.close h r false).bad k = t.bad k := by
  simp [FlowTable.close]

theorem FlowTable.close_wf (r : CloseReason) (a : Bool) (w : cellsWf Slot.powerOn t.slots) :
    cellsWf Slot.powerOn (t.close h r a).slots := by
  cases a
  · simp only [FlowTable.close, Bool.false_eq_true, if_false]
    exact FlowTable.setClosed_wf _ _ (FlowTable.setDir_wf _ _ _ (FlowTable.leaveHold_wf _ _ (t.disarm_wf h w)))
  · exact t.free_wf h w

/-! ### Creation (R13) -/

/-- Creation writes one directory entry; the generation stays as it was. -/
theorem FlowTable.dir_create (x : RecState) (d : Fin 16) (b : Body) : (t.create h x d b).dir k =
    if k = h then { state := x, domain := d, generation := (t.dir h).generation, closeReason := none }
    else t.dir k := by
  simp only [FlowTable.create, FlowTable.dir_setLearned, FlowTable.dir_setExpiryQ, FlowTable.dir_setCount]
  simp only [FlowTable.dir, FlowTable.slot_setSlot]
  split <;> rfl

/-- Creation writes one whole body. -/
theorem FlowTable.body_create (x : RecState) (d : Fin 16) (b : Body) :
    (t.create h x d b).body k = if k = h then b else t.body k := by
  simp only [FlowTable.create, FlowTable.body_setLearned, FlowTable.body_setExpiryQ, FlowTable.body_setCount]
  simp only [FlowTable.body, FlowTable.slot_setSlot]
  split <;> rfl

/-- Creation writes the body with a new code (R8). -/
theorem FlowTable.bad_create (x : RecState) (d : Fin 16) (b : Body) :
    (t.create h x d b).bad k = if k = h then false else t.bad k := by
  simp only [FlowTable.create, FlowTable.bad_setLearned, FlowTable.bad_setExpiryQ, FlowTable.bad_setCount]
  simp only [FlowTable.bad, FlowTable.slot_setSlot]
  split <;> rfl

/-- The count of the new record's domain rises by 1; the others stay. -/
theorem FlowTable.count_create (x : RecState) (d d' : Fin 16) (b : Body) :
    (t.create h x d b).count d' = if d' = d then t.count d' + 1 else t.count d' := by
  simp only [FlowTable.create, FlowTable.count_setLearned, FlowTable.count_setExpiryQ, FlowTable.count_setCount,
    FlowTable.count_setSlot]
  split <;> simp_all

theorem FlowTable.create_expiryQ (x : RecState) (d : Fin 16) (b : Body) : (t.create h x d b).expiryQ =
    match b.deadline with
    | some w => queueInsert w h (queueRemove h t.expiryQ)
    | none => t.expiryQ := rfl

theorem FlowTable.create_wf (x : RecState) (d : Fin 16) (b : Body) (w : cellsWf Slot.powerOn t.slots) :
    cellsWf Slot.powerOn (t.create h x d b).slots :=
  FlowTable.setSlot_wf t h _ w

/-! ### Release and the hold rule (R120, R114) -/

theorem FlowTable.refresh_wf (now : Nat) (w : cellsWf Slot.powerOn t.slots) :
    cellsWf Slot.powerOn (t.refresh h now).slots := by
  unfold FlowTable.refresh
  split
  · exact t.arm_wf h _ w
  · exact w

/-- A release writes one directory entry: ACTIVE. -/
theorem FlowTable.dir_release (now : Nat) : (t.release h now).dir k =
    if k = h then { t.dir h with state := .active } else t.dir k := by
  simp [FlowTable.release, FlowTable.dir_setDir]

/-- A release makes the hold end absent, and arms a fresh deadline when the stored lease interval is above 0. -/
theorem FlowTable.body_release (now : Nat) : (t.release h now).body k =
    if k = h then { t.body h with
      holdEnd := none
      deadline := if (t.body h).leaseInterval > 0 then some (clampTime now (t.body h).leaseInterval)
        else (t.body h).deadline }
    else t.body k := by
  simp only [FlowTable.release, FlowTable.body_refresh, FlowTable.body_leaveHold, FlowTable.body_setDir, if_true]
  by_cases e : k = h <;> by_cases l : (t.body h).leaseInterval > 0 <;> simp [e, l]

@[simp] theorem FlowTable.bad_release (now : Nat) : (t.release h now).bad k = t.bad k := by simp [FlowTable.release]

theorem FlowTable.release_expiryQ (now : Nat) : (t.release h now).expiryQ =
    if (t.body h).leaseInterval > 0 then
      queueInsert (clampTime now (t.body h).leaseInterval) h (queueRemove h t.expiryQ)
    else t.expiryQ := by
  simp [FlowTable.release, FlowTable.refresh_expiryQ, FlowTable.body_leaveHold]

theorem FlowTable.release_wf (now : Nat) (w : cellsWf Slot.powerOn t.slots) :
    cellsWf Slot.powerOn (t.release h now).slots :=
  FlowTable.refresh_wf _ h now (FlowTable.leaveHold_wf _ _ (t.setDir_wf h _ w))

/-- A hold above 0 ticks writes one directory entry: HELD. -/
theorem FlowTable.dir_holdRule (now n : Nat) (hn : n > 0) : (t.holdRule h now n).dir k =
    if k = h then { t.dir h with state := .held } else t.dir k := by
  simp [FlowTable.holdRule, hn, FlowTable.dir_setDir]

/-- A hold above 0 ticks removes the deadline and sets the hold end. -/
theorem FlowTable.body_holdRule (now n : Nat) (hn : n > 0) : (t.holdRule h now n).body k =
    if k = h then { t.body h with deadline := none, holdEnd := some (clampTime now n) } else t.body k := by
  simp only [FlowTable.holdRule, hn, if_true, FlowTable.body_enterHold, FlowTable.body_disarm, FlowTable.body_setDir]
  split <;> simp_all

/-- A hold of 0 ticks releases a HELD record. -/
theorem FlowTable.holdRule_zero_held (now : Nat) (hs : (t.dir h).state = .held) :
    t.holdRule h now 0 = t.release h now := by
  simp [FlowTable.holdRule, hs]

/-- A hold of 0 ticks changes nothing else. -/
theorem FlowTable.holdRule_zero_other (now : Nat) (hs : (t.dir h).state ≠ .held) : t.holdRule h now 0 = t := by
  simp [FlowTable.holdRule, hs]

@[simp] theorem FlowTable.bad_holdRule (now n : Nat) : (t.holdRule h now n).bad k = t.bad k := by
  unfold FlowTable.holdRule; split
  · simp
  · split <;> simp

@[simp] theorem FlowTable.holdRule_counts (now n : Nat) : (t.holdRule h now n).counts = t.counts := by
  unfold FlowTable.holdRule; split
  · simp
  · split <;> simp

@[simp] theorem FlowTable.holdRule_learned (now n : Nat) : (t.holdRule h now n).learned = t.learned := by
  unfold FlowTable.holdRule; split
  · simp
  · split <;> simp

@[simp] theorem FlowTable.holdRule_closed (now n : Nat) : (t.holdRule h now n).closed = t.closed := by
  unfold FlowTable.holdRule; split
  · simp
  · split <;> simp

theorem FlowTable.holdRule_wf (now n : Nat) (w : cellsWf Slot.powerOn t.slots) :
    cellsWf Slot.powerOn (t.holdRule h now n).slots := by
  unfold FlowTable.holdRule
  split
  · exact FlowTable.enterHold_wf _ _ _ (FlowTable.disarm_wf _ _ (t.setDir_wf h _ w))
  · split
    · exact t.release_wf h now w
    · exact w

/-! ### Search and placement (R23, R25) -/

/-- What a search can leave behind: a slot reads as before, or it was a sound-looking candidate of the domain that held an
error, and reads as damage leaves it. -/
theorem FlowTable.searchIn_slot (d : Fin 16) (key : Key) (n : Nat) : ∀ (hs : List Nat) (t : FlowTable),
    ((t.searchIn d key hs).1.slot n = t.slot n) ∨ (n ∈ hs ∧ t.bad n = true ∧ (t.dir n).matchable = true
      ∧ (t.dir n).domain = d ∧ (t.searchIn d key hs).1.slot n = (t.damage n).slot n) := by
  intro hs
  induction hs with
  | nil => intro t; exact .inl rfl
  | cons a hs ih =>
    intro t
    unfold FlowTable.searchIn
    split
    · exact (ih t).imp id (fun ⟨m, r⟩ => ⟨List.mem_cons_of_mem _ m, r⟩)
    · rename_i hm
      simp only [Bool.or_eq_true, Bool.not_eq_true', decide_eq_true_eq, not_or, Bool.not_eq_false] at hm
      split
      · rename_i hb
        by_cases e : n = a
        · subst e
          refine .inr ⟨by simp, hb, hm.1, by simpa using hm.2, ?_⟩
          rcases ih (t.damage n) with r | ⟨_, _, r, _⟩
          · exact r
          · simp [FlowTable.dir_damage, DirEntry.matchable, DirEntry.damaged] at r
        · have es : (t.damage a).slot n = t.slot n :=
            FlowTable.slot_ext (by simp [FlowTable.dir_damage, e]) (by simp [FlowTable.body_damage, e]) (by simp)
          have ed : ((t.damage a).damage n).slot n = (t.damage n).slot n :=
            FlowTable.slot_ext (by simp [FlowTable.dir_damage, e]) (by simp [FlowTable.body_damage, e]) (by simp)
          rcases ih (t.damage a) with r | ⟨m, b, x, y, z⟩
          · exact .inl (r.trans es)
          · refine .inr ⟨List.mem_cons_of_mem _ m, by simpa using b, ?_, ?_, z.trans ed⟩
            · simpa [FlowTable.dir_damage, e] using x
            · simpa [FlowTable.dir_damage, e] using y
      · split
        · exact .inl rfl
        · exact (ih t).imp id (fun ⟨m, r⟩ => ⟨List.mem_cons_of_mem _ m, r⟩)

/-- A search changes no count. -/
theorem FlowTable.searchIn_counts (d : Fin 16) (key : Key) : ∀ (hs : List Nat) (t : FlowTable),
    (t.searchIn d key hs).1.counts = t.counts := by
  intro hs
  induction hs with
  | nil => intro t; rfl
  | cons a hs ih =>
    intro t
    unfold FlowTable.searchIn
    split
    · exact ih t
    · split
      · simp [ih]
      · split
        · rfl
        · exact ih t

/-- A search keeps the canonical form. -/
theorem FlowTable.searchIn_wf (d : Fin 16) (key : Key) : ∀ (hs : List Nat) (t : FlowTable),
    cellsWf Slot.powerOn t.slots → cellsWf Slot.powerOn (t.searchIn d key hs).1.slots := by
  intro hs
  induction hs with
  | nil => intro t w; exact w
  | cons a hs ih =>
    intro t w
    unfold FlowTable.searchIn
    split
    · exact ih t w
    · split
      · exact ih _ (t.damage_wf a w)
      · split
        · exact w
        · exact ih t w

/-- A record that a search finds is a candidate, matchable, of the search's domain and key, and its body is sound. -/
theorem FlowTable.searchIn_found (d : Fin 16) (key : Key) (n : Nat) : ∀ (hs : List Nat) (t : FlowTable),
    (t.searchIn d key hs).2 = some n →
      n ∈ hs ∧ ((t.searchIn d key hs).1.dir n).matchable = true ∧ ((t.searchIn d key hs).1.dir n).domain = d
        ∧ ((t.searchIn d key hs).1.body n).key = key ∧ (t.searchIn d key hs).1.bad n = false := by
  intro hs
  induction hs with
  | nil => intro t e; simp [FlowTable.searchIn] at e
  | cons a hs ih =>
    intro t
    unfold FlowTable.searchIn
    split
    · exact fun e => (ih t e).imp (List.mem_cons_of_mem _) id
    · rename_i hm
      simp only [Bool.or_eq_true, Bool.not_eq_true', decide_eq_true_eq, not_or, Bool.not_eq_false] at hm
      split
      · exact fun e => (ih _ e).imp (List.mem_cons_of_mem _) id
      · rename_i hb
        split
        · rename_i hk
          intro e
          obtain rfl : a = n := by simpa using e
          exact ⟨by simp, hm.1, by simpa using hm.2, hk, by simpa using hb⟩
        · exact fun e => (ih t e).imp (List.mem_cons_of_mem _) id

/-- A slot that placement chooses is a FREE candidate. -/
theorem FlowTable.placement_free (b : BitVec 11) (n : Nat) (e : t.placement b = some n) :
    n ∈ candidates b ∧ (t.dir n).state = .free :=
  ⟨List.mem_of_find?_eq_some e, by simpa using List.find?_some e⟩

end Sys2Proof.Machine
end

