-- ==== Sys2Proof/Tests/Slice0.lean ====
section
/-! SUPPORT. The model's own tests: ill-formed commands, the worked examples of the manual, one step of some commands, and
for every statement with hypotheses a state and operands that meet them. -/

/- The proofs are checked one after another: side by side they would hold a thread each. -/
set_option Elab.async false

namespace Sys2Proof.Tests

open Sys2Proof.Machine

/-! ### Helpers -/

/-- The outcome of a command, tested. -/
def after (i : Instr) (s : State) (p : State → Bool) : Bool :=
  match exec i s with
  | .next t => p t
  | .fault _ => false
  | .refused _ => false

/-- A descriptor from its tag, kind and fields (offset, size, value). -/
def desc (tag kind : Nat) (fields : List (Nat × Nat × Nat)) : Descriptor :=
  BitVec.ofNat 384 (fields.foldl (fun a f => a + placeBytes f.1 f.2.1 f.2.2) (placeBytes 0 2 tag + placeBytes 2 1 kind))

/-- A READY port with run on, everything else as after power-on. -/
def running : State := { State.reset with port := { Port.powerOn with ready := true, run := true } }

/-- A state with one descriptor in the command queue. -/
def offer (s : State) (d : Descriptor) : State :=
  { s with port := { s.port with window := storeLE s.port.window 0x100 48 d.toNat, cmdProducer := 1 } }

/-- A state whose command in execution waits at the arbiter. -/
def waiting (s : State) (d : Descriptor) : State := { s with inExec := some { desc := d, phase := .waiting } }

/-- A state with a record of domain 1, generation 4, key 77 in handle 820, the first way of its bucket 205. -/
def record (s : State) (st : RecState) (why : Option CloseReason) (bad : Bool) (f : Body → Body) : State :=
  { s with table := (s.table.setSlot 820
      { dir := { state := st, domain := 1, generation := 4#8, closeReason := why }
        body := f { Body.zero with key := 77#128, cls := 20#8 }
        bad := bad }).setCount 1 1 }

/-- Domain 1 enabled, with a learn mode. -/
def domainOn (s : State) (m : LearnMode) : State :=
  { s with domains := s.domains.set 1 { DomainEntry.powerOn with enabled := true, learnMode := m, timeout := 500 } }

/-- Channel 0 with one request that waits at the arbiter. -/
def asked (s : State) (r : RequestBody) : State :=
  s.setChan 0 { Channel.powerOn with
    state := .opened, queue := [{ tag := 7#8, body := r, bad := none }], unanswered := 1, presented := true }

/-- The LOOKUP of the record's key in domain 1, with the learn flag. -/
def ask (length : BitVec 16) : RequestBody := .lookup 1#8 1#8 length 77#128

/-- An operation at the table. -/
def busy (s : State) (r : Requester) (abandoned : Bool) (o : OpOutcome) : State :=
  { s with opAtTable := some { requester := r, before := s.table, abandoned := abandoned, outcome := o } }

/-- A state at a time. -/
def atTime (s : State) (n : Nat) : State := { s with timer := { s.timer with timeBase := n } }

/-- The sweep unit in a state. -/
def sweeping (s : State) (st : SweepState) : State := { s with sweep := { s.sweep with state := st } }

/-! ### Ill-formed commands -/

/-- A well-formed HOLD frame is no bad frame; one with a wrong last byte is. -/
theorem test_wellFormed_badFrame :
    (Instr.badFrameArrival 0 [0x03#8, 0x08#8, 0x20#8, 0x3F#8, 0x04#8, 0x00#8, 0x3C#8, 0xFF#8, 0xA2#8]).wellFormed = false
    ∧ (Instr.badFrameArrival 0 [0x03#8, 0x08#8, 0x20#8, 0x3F#8, 0x04#8, 0x00#8, 0x3C#8, 0xFF#8, 0xA3#8]).wellFormed
      = true := by decide +kernel

/-- The last handle is 8255 (R2). -/
theorem test_wellFormed_uncorrectable :
    (Instr.uncorrectableError 8256).wellFormed = false ∧ (Instr.uncorrectableError 8255).wellFormed = true := by decide

/-- A RUN_ENABLE_WRITE has bit 1 clear, a PORT_RESET has it set (R142, R153). -/
theorem test_wellFormed_control :
    (Instr.runEnableWrite 3#32).wellFormed = false ∧ (Instr.runEnableWrite 1#32).wellFormed = true
    ∧ (Instr.portReset 1#32).wellFormed = false ∧ (Instr.portReset 3#32).wellFormed = true := by decide

/-- A WINDOW_WRITE is of no word that has a row of its own. -/
theorem test_wellFormed_window :
    (Instr.windowWrite 0x015#12 0#32).wellFormed = false ∧ (Instr.windowWrite 0x018#12 0#32).wellFormed = true := by decide

/-! ### The manual's examples -/

/-- The key of the example of section 2.3. -/
def exampleKey : Key := 0x0A000001_0A000002_00501F90_06000000#128

/-- The four rows of the hash example (section 2.3): buckets 64, 69, 832 and 387. -/
theorem test_hash_example :
    (bucket 0#11 3 exampleKey).toNat = 64 ∧ (bucket 5#11 3 exampleKey).toNat = 69
    ∧ (bucket 0#11 5 exampleKey).toNat = 832
    ∧ (bucket 0#11 3 (exampleKey &&& 0xFFFFFFFF_FFFFFFFF_00000000_00000000#128)).toNat = 387 := by decide +kernel

/-- The check of the nine bytes 0x31 to 0x39 is 0x29B1 (R56). -/
theorem test_check_example :
    crc [0x31#8, 0x32#8, 0x33#8, 0x34#8, 0x35#8, 0x36#8, 0x37#8, 0x38#8, 0x39#8] = 0x29B1#16 := by decide +kernel

/-- A LOOKUP, a PEEK and a HOLD frame written byte by byte from R183, their checks computed by hand (R56), carry their
requests. -/
theorem test_frames_read :
    classifyFrame [0x01#8, 0x07#8, 0x01#8, 0x01#8, 0x05#8, 0xDC#8, 0x0A#8, 0x00#8, 0x00#8, 0x01#8, 0x0A#8, 0x00#8, 0x00#8,
      0x02#8, 0x00#8, 0x50#8, 0x1F#8, 0x90#8, 0x06#8, 0x00#8, 0x00#8, 0x00#8, 0xB9#8, 0xEA#8]
      = .ok (7#8, .lookup 1#8 1#8 1500#16 exampleKey)
    ∧ classifyFrame [0x02#8, 0x09#8, 0x0F#8, 0x0A#8, 0x00#8, 0x00#8, 0x01#8, 0x0A#8, 0x00#8, 0x00#8, 0x02#8, 0x00#8, 0x50#8,
      0x1F#8, 0x90#8, 0x06#8, 0x00#8, 0x00#8, 0x00#8, 0x10#8, 0x37#8] = .ok (9#8, .peek 15#8 exampleKey)
    ∧ classifyFrame [0x03#8, 0x08#8, 0x20#8, 0x3F#8, 0x04#8, 0x00#8, 0x3C#8, 0xFF#8, 0xA2#8]
      = .ok (8#8, .hold 8255#16 4#8 60#16) := by decide +kernel

/-- The first test that fails names the error: 3 bytes; a wrong check; kind 4; a CREDIT_GRANT on the request lane; a
HOLD kind of 4 bytes (R57). -/
theorem test_frames_refused :
    classifyFrame [0x03#8, 0x08#8, 0x20#8] = .error .badSize
    ∧ classifyFrame [0x04#8, 0x01#8, 0xC1#8, 0xEB#8] = .error .badCheck
    ∧ classifyFrame [0x04#8, 0x01#8, 0xC1#8, 0xEA#8] = .error .unknownKind
    ∧ classifyFrame [0x82#8, 0x08#8, 0xE1#8, 0xFD#8] = .error .unknownKind
    ∧ classifyFrame [0x03#8, 0x08#8, 0xC9#8, 0x54#8] = .error .badSize := by decide +kernel

/-- The frames the part sends, byte by byte (R183, R56). -/
theorem test_frames_sent :
    (OutFrame.creditGrant 8).bytes = [0x82#8, 0x08#8, 0xE1#8, 0xFD#8]
    ∧ (OutFrame.closeNotice .host).bytes = [0x83#8, 0x01#8, 0x43#8, 0xE5#8]
    ∧ (OutFrame.response 7#8
        { verdict := .held, handle := 820, generation := 4#8, cls := 20#8, state := .held, holdRemaining := 50 }).bytes
      = [0x81#8, 0x07#8, 0x03#8, 0x00#8, 0x03#8, 0x34#8, 0x04#8, 0x14#8, 0x03#8, 0x00#8, 0x32#8, 0x52#8, 0xEC#8] := by
  decide +kernel

/-- The +7 group of an ACTIVE record of origin LC1, domain 3, profile 5 is 0x14CA (R182). -/
theorem test_record_group :
    completionBits 0#16 17#8 .ok (.record { state := .active, origin := 1, domain := 3, profile := 5 }) / 2 ^ 56 % 2 ^ 16
      = 0x14CA := by decide +kernel

/-- The metered flow of section 3.5's examples: rate 100, burst 3,000, at 1004, 1005, 1015 and 1100. -/
theorem test_meter_example :
    meter { rate := 100, burst := 3000 } 1500 4 1500 = (400, true)
    ∧ meter { rate := 100, burst := 3000 } 400 1 1500 = (500, false)
    ∧ meter { rate := 100, burst := 3000 } 500 10 1500 = (0, true)
    ∧ meter { rate := 100, burst := 3000 } 0 85 64 = (2936, true) := by decide

/-- The record of section 12.2 at 1032: ACTIVE, profile 1, lease 200, tokens 1,500, hit at 1030. -/
def flowOf122 : State :=
  let s := atTime (domainOn running .confirm) 1032
  record { s with profiles := s.profiles.set 1 { rate := 100, burst := 3000 } } .active none false (fun b => { b with
    profile := 1, leaseInterval := 200, tokens := 1500, meterTime := 1030, packets := 2, bytes := 3000,
    deadline := some 1230 })

/-- The hit of 1,800 at 1032 is EXCEED, with tokens 1,700, deadline 1232 and counters 3 / 4,800 / 1 (section 12.2). -/
theorem test_lookup_exceed :
    after .lookup (asked flowOf122 (ask 1800#16)) (fun t =>
      decide ((t.table.body 820).tokens = 1700 ∧ (t.table.body 820).deadline = some 1232
        ∧ (t.table.body 820).packets = 3 ∧ (t.table.body 820).bytes = 4800 ∧ (t.table.body 820).exceeds = 1
        ∧ t.table.expiryQ = [(1232, 820)])) = true := by decide +kernel

/-- The HOLD request of 60 ticks at 1040 gives a hold end of 1100 and no deadline (section 12.2). -/
theorem test_hold_request :
    after .holdRequest (asked (atTime flowOf122 1040) (.hold 820#16 4#8 60#16)) (fun t =>
      decide ((t.table.dir 820).state = .held ∧ (t.table.body 820).holdEnd = some 1100
        ∧ (t.table.body 820).deadline = none)) = true := by decide +kernel

/-- Bring-up: a LOOKUP of tag 5 in INIT is answered CHANNEL_CLOSED, DISABLED (section 12.1). -/
theorem test_lookup_in_init :
    after (.lookupFrameArrival 0 5#8 1#8 1#8 100#16 77#128) State.reset (fun t =>
      decide ((t.chan 0).lane = [.response 5#8 { verdict := .channelClosed, reason := .disabled }])) = true := by decide

/-! ### One step of some commands -/

/-- A time of 2^48-1 stands still under a tick (R99). -/
theorem test_tick_stops :
    after .tick { State.reset with timer := { State.reset.timer with enable := true, timeBase := Config.timeMax } }
      (fun t => decide (t.timer.timeBase = Config.timeMax)) = true := by decide

/-- Of divider 3 at count 1, the fifth period is the second count of a new tick: ticks come at the second and the fifth
(R100). -/
theorem test_periods :
    let l : Timer := { State.reset.timer with enable := true, divider := 3, dividerCount := 1 }
    [1, 2, 4, 5].map (fun n => ((l.periods n).timeBase, (l.periods n).dividerCount)) = [(0, 2), (1, 0), (1, 2), (2, 0)] := by
  decide

/-- The end of the pass makes the port READY and CAUSE bit 3 present (R141, R151). -/
theorem test_init_pass :
    after .initPassEnd State.reset (fun t => decide (t.status = 1#32 ∧ t.causes = 8#32)) = true := by decide

/-- A descriptor of kind 24 completes UNKNOWN_COMMAND: status 1 in byte +3 of completion slot 0 (R146, R150). -/
theorem test_unknown_command :
    after .unknownCommand (offer running (desc 7 24 [])) (fun t =>
      decide (loadLE t.port.window 0x400 4 = 0x01180007 ∧ t.port.cplProducer = 1 ∧ t.port.cmdConsumer = 1
        ∧ t.port.reservations = 0)) = true := by decide +kernel

/-- A SET_DOMAIN of domain 1 with learn mode 3 completes BAD_ARGUMENT with the count 1 at +18 and no other field (R45, R40). -/
theorem test_set_domain_refused :
    after .setDomain (offer { running with table := running.table.setCount 1 1 } (desc 7 2 [(4, 1, 1), (5, 1, 3), (8, 2, 4)]))
      (fun t => decide (loadLE t.port.window 0x400 4 = 0x02020007 ∧ loadLE t.port.window 0x404 14 = 0
        ∧ loadLE t.port.window 0x412 2 = 1 ∧ loadLE t.port.window 0x414 44 = 0)) = true := by decide +kernel

/-- A CONFIRM refused for its class carries the reference as the descriptor gave it, and nothing else (R125, R126). -/
theorem test_confirm_refused :
    after .confirm (offer running (desc 7 11 [(4, 2, 820), (6, 1, 4), (8, 2, 300)])) (fun t =>
      decide (loadLE t.port.window 0x400 4 = 0x020B0007 ∧ loadLE t.port.window 0x404 2 = 820
        ∧ loadLE t.port.window 0x406 1 = 4 ∧ loadLE t.port.window 0x407 57 = 0)) = true := by decide +kernel

/-- OPEN of channel 2 sends CREDIT_GRANT 8 (R73). -/
theorem test_open :
    after .channelControlOpen (offer running (desc 7 6 [(4, 1, 2), (5, 1, 1)])) (fun t =>
      decide ((t.chan 2).state = .opened ∧ (t.chan 2).lane = [.creditGrant 8])) = true := by decide +kernel

/-- A CMD_PRODUCER write of 17 on an empty queue at index 0 is refused (R143). -/
theorem test_cmd_producer_refused :
    after (.cmdProducerWrite 17#32) running (fun t => decide (t.port.cmdProducer = 0 ∧ t.causes = 0x10#32)) = true := by
  decide

/-- RETIRE closes an ACTIVE record as RETIRED, on the closed list, count kept (R131, R130). -/
theorem test_retire :
    after .retireOperation (waiting flowOf122 (desc 7 13 [(4, 2, 820), (6, 1, 4)])) (fun t =>
      decide ((t.table.dir 820).state = .closing ∧ (t.table.dir 820).closeReason = some .retired
        ∧ t.table.closed = [820] ∧ t.table.count 1 = 1)) = true := by decide +kernel

/-- FETCH_CLOSED frees the slot at the next generation (R135, R15). -/
theorem test_fetch_closed :
    after .fetchClosedOperation (waiting { record running .closing (some .idle) false id with
        table := (record running .closing (some .idle) false id).table.setClosed [820] } (desc 7 14 [])) (fun t =>
      decide ((t.table.dir 820).state = .free ∧ (t.table.dir 820).generation = 5#8 ∧ t.table.closed = []
        ∧ t.table.count 1 = 0)) = true := by decide +kernel

/-- An INSERT of the record's key finds it: EXISTS, and nothing changes (R156). -/
theorem test_insert_exists :
    after .insertOperation (waiting flowOf122 (desc 7 15 [(4, 1, 1), (16, 16, 77)])) (fun t =>
      decide (t.table = flowOf122.table)) = true := by decide +kernel

/-- A RETIRE sweep of all domains and states closes the record in its position 205 (R169, R170, R171). -/
theorem test_sweep_retires :
    after .sweepPosition { flowOf122 with sweep := { flowOf122.sweep with
        state := .running, cursor := 205, presented := true
        params := { SweepParams.powerOn with onActive := true, action := .retire } } } (fun t =>
      decide ((t.table.dir 820).closeReason = some .swept ∧ t.table.closed = [820])) = true := by decide +kernel

/-- An expiry of an ACTIVE record whose deadline is now closes it as IDLE (R108, R109). -/
theorem test_expiry :
    after .expiry { flowOf122 with
        table := flowOf122.table.setExpiryQ [(1032, 820)]
        timer := { flowOf122.timer with waiting := some (.expiry, 820) } } (fun t =>
      decide ((t.table.dir 820).closeReason = some .idle ∧ t.table.closed = [820] ∧ t.table.expiryQ = [])) = true := by
  decide +kernel

/-! ### Witnesses: for each statement with hypotheses, a state and operands that meet them -/

/-- The command offered at CMD_CONSUMER is taken, and its descriptor is the one offered. -/
abbrev Takes (s : State) (d : Descriptor) : Prop := (offer s d).canTake = true ∧ (offer s d).nextDescriptor = d

/-- A take that the model makes meets the five conditions of the statements. -/
theorem takes_now {s : State} {d : Descriptor} (h : Takes s d) : CanTakeNow (offer s d) := State.canTake_iff.mp h.1

/-- A table whose one slot in use is 820. -/
def oneSlot (x : Slot) (l c : List Nat) (e q : List (Nat × Nat)) : FlowTable where
  slots := [(820, x)]
  counts := (Vector.replicate 16 0).set 1 1
  learned := l
  closed := c
  expiryQ := e
  holdQ := q

/-- The slot of the table of one slot in use. -/
theorem oneSlot_slot (x : Slot) (l c : List Nat) (e q : List (Nat × Nat)) (h : Nat) :
    (oneSlot x l c e q).slot h = if h = 820 then x else Slot.powerOn := rfl

/-- An ACTIVE record with a lease interval, due at 1230, in the first way of its bucket. -/
def activeSlot : Slot where
  dir := { state := .active, domain := 1, generation := 4#8, closeReason := none }
  body := { Body.zero with
    key := 77#128, cls := 20#8, profile := 1, leaseInterval := 200, deadline := some 1230, tokens := 1500, meterTime := 1030
    packets := 2, bytes := 3000 }
  bad := false

/-- A PROVISIONAL record, learned and not yet reported. -/
def provisionalSlot : Slot where
  dir := { state := .provisional, domain := 1, generation := 255#8, closeReason := none }
  body := { Body.zero with key := 77#128, deadline := some 1500, packets := 1, reported := some false }
  bad := false

/-- The two tables of one record meet the law of the flow table. -/
theorem oneSlot_inv (x : Slot) (l : List Nat) (w : Nat) (ne : x ≠ Slot.powerOn) (d : x.dir.domain = 1)
    (why : x.dir.closeReason = none) (hd : x.body.deadline = some w) (hh : x.body.holdEnd = none)
    (st : (x.dir.state = .active ∧ x.body.leaseInterval > 0 ∧ x.body.reported = none ∧ l = [])
      ∨ (x.dir.state = .provisional ∧ x.body.reported = some false ∧ l = [820])) :
    (oneSlot x l [] [(w, 820)] []).Inv := by
  have s := oneSlot_slot x l [] [(w, 820)] []
  have nf : x.dir.state ≠ .free := by rcases st with ⟨a, _⟩ | ⟨a, _⟩ <;> simp [a]
  have nc : x.dir.state ≠ .closing := by rcases st with ⟨a, _⟩ | ⟨a, _⟩ <;> simp [a]
  have nh : x.dir.state ≠ .held := by rcases st with ⟨a, _⟩ | ⟨a, _⟩ <;> simp [a]
  refine ⟨⟨by simp [oneSlot], by simpa [oneSlot, Config.slots] using ne⟩, by simp [oneSlot, Config.slots], ?_, ?_, ?_, ?_,
    ?_, ?_, ?_, ?_, ?_, ?_, ?_, ?_⟩
  · intro n
    by_cases e : n = 1
    · subst e; simp [oneSlot, FlowTable.count, nf, d]
    · have e' : ¬ (1 : Fin 16) = n := fun h => e h.symm
      have v : ¬ 1 = n.val := fun h => e' (Fin.ext h)
      simp [oneSlot, FlowTable.count, v, d, e']
  · intro h; simp only [FlowTable.dir, s]; split <;> simp [why, nc, Slot.powerOn]
  · simp [oneSlot]
  · intro h; simp only [FlowTable.dir, s]; split <;> simp [oneSlot, nc, Slot.powerOn]
  · rcases st with ⟨_, _, _, rfl⟩ | ⟨_, _, rfl⟩ <;> simp [oneSlot]
  · intro h; simp only [FlowTable.dir, FlowTable.body, s]
    rcases st with ⟨a, _, b, rfl⟩ | ⟨a, b, rfl⟩ <;> by_cases e : h = 820 <;> simp [oneSlot, a, b, e, Slot.powerOn]
  · intro h; simp only [FlowTable.dir, FlowTable.body, s]
    rcases st with ⟨a, _, b, rfl⟩ | ⟨a, b, rfl⟩ <;> by_cases e : h = 820 <;> simp [a, b, e, Slot.powerOn]
  · simp [oneSlot, QueueInv]
  · simp [oneSlot, QueueInv]
  · intro h; simp only [FlowTable.dir, FlowTable.body, s]
    rcases st with ⟨a, b, _, rfl⟩ | ⟨a, b, rfl⟩ <;> by_cases e : h = 820 <;>
      simp [oneSlot, queueTime, a, b, e, Slot.powerOn, eq_comm]
  · intro h; simp only [FlowTable.dir, s]
    by_cases e : h = 820 <;> simp [oneSlot, queueTime, nh, e, Slot.powerOn]
  · intro h; simp only [FlowTable.dir, FlowTable.body, s]
    by_cases e : h = 820 <;> simp [oneSlot, queueTime, hd, hh, e, Slot.powerOn, eq_comm]

/-- A READY part with the ACTIVE record in its table, at time 1032, profile 1 set, domain 1 in CONFIRM mode. -/
def live : State := { flowOf122 with table := oneSlot activeSlot [] [] [(1230, 820)] [] }

/-- A READY part with the PROVISIONAL record in its table. -/
def fresh : State := { flowOf122 with table := oneSlot provisionalSlot [820] [] [(1500, 820)] [] }

/-- A READY part with the record HELD to 1100. -/
def onHold : State := { flowOf122 with
  table := oneSlot { activeSlot with
    dir := { activeSlot.dir with state := .held }
    body := { activeSlot.body with deadline := none, holdEnd := some 1100 } } [] [] [] [(1100, 820)] }

/-- A READY part with the record CLOSING for a reason. -/
def closed (why : CloseReason) : State := { flowOf122 with
  table := oneSlot { activeSlot with
    dir := { activeSlot.dir with state := .closing, closeReason := some why }
    body := { activeSlot.body with deadline := none } } [] [820] [] [] }

/-- A state whose record's stored body holds an error. -/
def struck (s : State) : State := { s with table := s.table.setSlot 820 { s.table.slot 820 with bad := true } }

/-- The search for the record's key finds it in handle 820. -/
abbrev Finds (s : State) : Prop := (s.table.search s.seed 1 (77#128 &&& s.domains[1].mask)).2 = some 820

theorem witness_PowerOnResetAndInitPass : State.reset.port.ready = false := rfl

theorem witness_TicksAdvanceTheTimeBase :
    let on (n c : Nat) : State := { State.reset with
      timer := { State.reset.timer with enable := true, timeBase := n, dividerCount := c } }
    ((on 281474976710654 0).timer.enable = true ∧ (on 281474976710654 0).timer.timeBase < 281474976710655)
    ∧ (on 281474976710655 0).timer.timeBase = 281474976710655
    ∧ (State.reset.timer.enable = false ∧ State.reset.pending = [])
    ∧ ((on 0 998).timer.dividerCount + 1 < (on 0 998).timer.divider)
    ∧ (on 0 999).timer.dividerCount + 1 = (on 0 999).timer.divider
    ∧ (on 0 999).timer.dividerCount < (on 0 999).timer.divider ∧ (on 0 0).timer.dividerCount < (on 0 0).timer.divider := by
  decide

/-- A management path with a command waiting, about to be taken. -/
theorem witness_EveryStepKeepsTheManagementPath :
    let s : State := { offer running (desc 7 10 []) with pending := [.fetchLearned] }
    PortInv s ∧ ∃ t, step s = .next t := by
  refine ⟨by unfold PortInv State.holders; decide +kernel, _, rfl⟩

/-- A walk in ABORTING whose last position waits at the arbiter, about to be granted. -/
theorem witness_EveryStepKeepsTheSweepLaw :
    let s : State := { running with
      inExec := some { desc := desc 9 23 [], phase := .aborting }
      sweep := { running.sweep with state := .aborting, cursor := 2063, pendingSweep := some 5#16, presented := true }
      pending := [.sweepPosition] }
    SweepInv s ∧ ∃ t, step s = .next t :=
  ⟨⟨by decide, by decide, by decide, by decide, by decide, by decide, by decide, (fun _ h => nomatch h),
    fun _ => ⟨_, rfl, rfl⟩, fun e h _ => by cases h; decide +kernel⟩, _, rfl⟩

/-- A channel with a request at the arbiter, about to be granted. -/
theorem witness_EveryStepKeepsTheChannelLaw :
    let s : State := { asked live (ask 64#16) with pending := [.lookup] }
    (∀ c, ChannelInv s c) ∧ ∃ t, step s = .next t := by
  refine ⟨?_, _, rfl⟩
  intro c
  by_cases e : c = 0
  · subst e; exact ⟨by decide, by decide, by decide, by decide, fun _ => ⟨rfl, _, _, rfl, rfl⟩, by decide, by decide⟩
  · have p : (State.chan { asked live (ask 64#16) with pending := [.lookup] } c).presented = false := by
      revert c; decide
    refine ⟨?_, ?_, ?_, ?_, fun h => (by rw [p] at h; cases h), ?_, ?_⟩
    · revert c; decide
    · revert c; decide
    · revert c; decide
    · revert c; decide
    · revert c; decide
    · revert c; decide

theorem live_inv : live.table.Inv :=
  oneSlot_inv activeSlot [] 1230 (by decide) rfl rfl rfl rfl (.inl ⟨rfl, by decide, rfl, rfl⟩)

theorem fresh_inv : fresh.table.Inv :=
  oneSlot_inv provisionalSlot [820] 1500 (by decide) rfl rfl rfl rfl (.inr ⟨rfl, rfl, rfl⟩)

theorem witness_EveryStepKeepsTheTableLaw :
    let s : State := { waiting fresh (desc 7 12 [(4, 2, 820), (6, 1, 255)]) with pending := [.rejectOperation] }
    s.table.Inv ∧ ∃ t, step s = .next t := ⟨fresh_inv, _, rfl⟩

theorem witness_EveryStepKeepsBucketAndKeyLaws :
    live.table.Inv ∧ live.table.BucketLaw live.seed ∧ live.table.KeyLaw ∧ ∃ t, step live = .next t := by
  have m : ∀ h, (live.table.dir h).matchable = true → h = 820 := by
    intro h e
    by_contra n
    have s := oneSlot_slot activeSlot [] [] [(1230, 820)] [] h
    rw [if_neg n] at s
    have z : live.table.dir h = Slot.powerOn.dir := congrArg Slot.dir s
    rw [z] at e
    revert e
    decide
  refine ⟨live_inv, ?_, ?_, _, rfl⟩
  · intro h _ e; rw [m h e]; decide +kernel
  · intro h k a b _ _; rw [m h a, m k b]

theorem witness_EveryStepKeepsTheBounds : BoundsInv live ∧ ∃ t, step live = .next t := by
  refine ⟨⟨?_, ?_, ?_, ?_, ?_⟩, _, rfl⟩
  · unfold QuotaLaw; decide
  · unfold SettingsInv; decide +kernel
  · intro e h; cases h
  · intro h
    have s : live.table.body h = if h = 820 then activeSlot.body else Body.zero := by
      show (live.table.slot h).body = _
      rw [show live.table.slot h = _ from oneSlot_slot activeSlot [] [] [(1230, 820)] [] h]
      split <;> rfl
    rw [s]
    split <;> simp [Body.InRange, activeSlot, Body.zero, Config.timeMax, Config.packetsMax, Config.bytesMax]
  · decide

/-- A REJECT frees a record of generation 255; a tick leaves every record and every FREE slot. -/
theorem witness_GenerationRisesOnlyOnEnteringFree :
    let s := waiting fresh (desc 7 12 [(4, 2, 820), (6, 1, 255)])
    s.table.Inv ∧ (s.table.dir 820).state ≠ .free
    ∧ after .rejectOperation s (fun t => decide ((t.table.dir 820).state = .free)) = true
    ∧ after .tick s (fun t => decide ((t.table.dir 820).state ≠ .free ∧ (t.table.dir 0).state = .free)) = true :=
  ⟨fresh_inv, by decide, by decide +kernel, by decide⟩

theorem witness_TimeBaseNeverDecreases :
    live.timer.timeBase ≤ 281474976710655 ∧ live.pending.head? ≠ some .powerOnReset ∧ ∃ t, step live = .next t :=
  ⟨by decide, by decide, _, rfl⟩

theorem witness_LanesOnlyGrow :
    (1 : Fin 4) ≠ 0 ∧ after (.peekFrameArrival 0 1#8 1#8 77#128) live (fun _ => true) = true := ⟨by decide, rfl⟩

theorem witness_OutsideSeesTheTableBetweenOperations :
    after .lookup (asked live (ask 64#16)) (fun t => t.opAtTable.isSome) = true := by decide +kernel

theorem witness_ArbiterGrantsTheNextInTheRing :
    (asked live (ask 64#16)).nextGrant = some (.lc 0)
    ∧ after .lookup (asked live (ask 64#16)) (fun t => decide (t.lastGranted ≠ live.lastGranted)) = true := by
  decide +kernel

/-- A table whose listed slots are not FREE. -/
def full (hs : List Nat) : FlowTable :=
  { FlowTable.initial with slots := hs.map (fun h => (h, { activeSlot with bad := false })) }

theorem witness_PlacementChoosesTheLowestFree :
    let f := fun (t : FlowTable) (h : Nat) => (t.dir h).state = .free
    f (full []) 0 ∧ (f (full [0, 1, 2]) 3 ∧ ∀ j, j < 3 → ¬ f (full [0, 1, 2]) j)
    ∧ ((∀ j, j < 4 → ¬ f (full [0, 1, 2, 3]) j) ∧ f (full [0, 1, 2, 3]) 8192)
    ∧ (let t := full ([0, 1, 2, 3] ++ (List.range 63).map (8192 + ·))
      (∀ j, j < 4 → ¬ f t j) ∧ f t (8192 + 63) ∧ ∀ j, j < 63 → ¬ f t (8192 + j))
    ∧ (let t := full (candidates 0#11)
      (∀ j, j < 4 → ¬ f t j) ∧ ∀ j, j < 64 → ¬ f t (8192 + j)) := by decide +kernel

theorem witness_DamageFreeingAndClosing : 8255 < 8256 := by decide

theorem witness_HoldRuleHoldsReplacesAndReleases :
    (live.table.dir 820).state = .active ∧ (onHold.table.dir 820).state = .held
    ∧ 0 < (onHold.table.body 820).leaseInterval := by decide

/-- The writes 0 and 16 of an empty queue at 0 are taken, 17 and 32 are not; a smaller occupancy is not. CPL_CONSUMER: 0 of an
empty queue is taken, 1 is not, nor is 64. -/
theorem witness_IndexWritesAreTested :
    let n : Nat → Nat := fun v => (v + 32 - running.port.cmdConsumer) % 32
    let p := offer running (desc 7 10 [])
    (n 0 ≤ 16 ∧ n 16 ≤ 16 ∧ (running.port.cmdProducer + 32 - running.port.cmdConsumer) % 32 ≤ n 0)
    ∧ 16 < n 17 ∧ n 31 ≤ 31 ∧ 31 < (32#32).toNat ∧ n 0 < (p.port.cmdProducer + 32 - p.port.cmdConsumer) % 32
    ∧ (running.port.cplProducer + 64 - running.port.cplConsumer) % 64 < (1 + 64 - running.port.cplConsumer) % 64
    ∧ 63 < (64#32).toNat := by decide +kernel

theorem witness_CausesAndTheInterruptLine : running.port.latched &&& 7#32 = 0#32 := by decide

theorem witness_ControlWritesSetRunAndResetThePort :
    (1#32).getLsbD 1 = false ∧ (2#32).getLsbD 1 = true
    ∧ ((asked live (ask 64#16)).setChan 1 { Channel.powerOn with state := .draining }).chan 1
      = { Channel.powerOn with state := .draining } := by decide

theorem witness_WindowWriteStoresCommandSlotBytes :
    let a : BitVec 12 → Nat := fun o => o.toNat / 4 * 4
    a 0x100#12 = 0x100 ∧ a 0x3FF#12 = 0x3FC ∧ (isControlWord 0x0FF#12 = false ∧ a 0x0FF#12 < 0x100)
    ∧ (isControlWord 0x400#12 = false ∧ 0x400 ≤ a 0x400#12) ∧ a 0x00B#12 = 0x008 ∧ a 0x00C#12 = 0x00C
    ∧ a 0x010#12 = 0x010 ∧ a 0x014#12 = 0x014 ∧ a 0x020#12 = 0x020 := by decide

theorem witness_WindowReadsAreTheRegisters :
    live.port.cmdProducer < 32 ∧ live.port.cmdConsumer < 32 ∧ live.port.cplProducer < 64 ∧ live.port.cplConsumer < 64
    ∧ (0xBFF#12).toNat / 4 * 4 = 0xBFC ∧ 0xC00 ≤ (0xC00#12).toNat / 4 * 4 := by decide

theorem witness_TimeLowReadLatchesTheHighPart :
    live.timer.timeBase ≤ 281474976710655 ∧ after .tick live (fun _ => true) = true := by decide

/-- One offered descriptor for each command that is carried out at the table. -/
def tableDescriptors : List (Instr × Descriptor) :=
  [(.setSeed, desc 7 1 [(4, 2, 2047)]), (.setDomain, desc 7 2 [(4, 1, 15), (8, 2, 256), (14, 2, 8256)]),
   (.hold, desc 7 9 [(4, 2, 8255), (8, 4, 65535)]), (.fetchLearned, desc 7 10 []),
   (.confirm, desc 7 11 [(4, 2, 820), (8, 2, 255), (10, 1, 63), (11, 1, 1), (12, 4, 65535)]),
   (.reject, desc 7 12 [(4, 2, 8255)]), (.retire, desc 7 13 [(4, 2, 0)]), (.fetchClosed, desc 7 14 []),
   (.insert, desc 7 15 [(4, 1, 15), (16, 16, 77)]), (.find, desc 7 16 [(4, 1, 15)]), (.query, desc 7 17 [(4, 2, 820)]),
   (.modify, desc 7 18 [(4, 2, 820), (16, 1, 15)]), (.collect, desc 7 19 [(4, 2, 820)])]

theorem witness_TableCommandIsTakenAndPresented :
    ∀ p ∈ tableDescriptors, Takes running p.2 ∧ (p.1, kindOf p.2) ∈ tableCommands ∧ checkFor p.2 = true := by
  decide +kernel

/-- The first values out of range, for every kind with arguments. -/
def refusedDescriptors : List Descriptor :=
  [desc 7 1 [(4, 2, 2048)], desc 7 2 [(4, 1, 16)], desc 7 2 [(8, 2, 512)], desc 7 9 [(4, 2, 8256)],
   desc 7 9 [(8, 4, 65536)], desc 7 11 [(8, 2, 256)], desc 7 11 [(4, 2, 16383)], desc 7 11 [(4, 2, 16384)],
   desc 7 12 [(4, 2, 8256)], desc 7 15 [(12, 4, 65536)],
   desc 7 16 [(4, 1, 16)], desc 7 18 [(16, 1, 16)]]

theorem witness_RefusedCommandsChangeNothingElse :
    (refusedDescriptors.all fun d => decide (Takes running d ∧ checkFor d = false)) = true
    ∧ ([desc 7 3 [(4, 1, 16)], desc 7 4 [(4, 1, 64)], desc 7 4 [], desc 7 4 [(4, 1, 1), (8, 4, 1048576)],
        desc 7 4 [(4, 1, 1), (12, 4, 16777216)], desc 7 5 [(4, 1, 64)], desc 7 7 [(4, 4, 0)], desc 7 7 [(4, 4, 65537)],
        desc 7 8 [(8, 8, 281474976710656)], desc 7 20 [(4, 1, 16)], desc 7 20 [(5, 1, 8)], desc 7 20 [(6, 1, 5)],
        desc 7 20 [(6, 1, 2), (12, 2, 256)], desc 7 20 [(6, 1, 3), (7, 1, 64)], desc 7 6 [(4, 1, 4), (5, 1, 1)],
        desc 7 6 [(4, 1, 4), (5, 1, 3)], desc 7 6 [(4, 1, 3), (5, 1, 0)], desc 7 6 [(4, 1, 4), (5, 1, 4)], desc 7 0 [],
        desc 7 24 []].all fun d => decide (Takes running d)) = true := by
  decide +kernel

theorem witness_NothingIsTakenUnlessAllConditionsHold :
    ¬ CanTakeNow State.reset
    ∧ kindOf (offer running (desc 7 11 [])).nextDescriptor ≠ 10#8
    ∧ (kindOf (offer running (desc 7 1 [])).nextDescriptor).toNat = 1
    ∧ (kindOf (offer running (desc 7 23 [])).nextDescriptor).toNat = 23 :=
  ⟨fun h => absurd h.1 (by decide), by decide +kernel, by decide +kernel, by decide +kernel⟩

theorem witness_DomainAndProfileCommandsComplete :
    Takes running (desc 7 3 [(4, 1, 15)]) ∧ Takes running (desc 7 4 [(4, 1, 63), (8, 4, 1048575), (12, 4, 16777215)])
    ∧ Takes running (desc 7 5 [(4, 1, 63)]) ∧ Takes running (desc 7 5 []) := by decide +kernel

theorem witness_SetTickAndSetTimeComplete :
    Takes live (desc 7 7 [(4, 4, 1), (8, 1, 1)]) ∧ Takes live (desc 7 7 [(4, 4, 65536)])
    ∧ Takes live (desc 7 8 [(8, 8, 1032)]) ∧ Takes live (desc 7 8 [(8, 8, 281474976710655)])
    ∧ Takes live (desc 7 8 [(8, 8, 1031)]) ∧ live.timer.timeBase = 1032 := by decide +kernel

/-- A channel 3 in a state. -/
def chanIn (x : ChanState) (close : Option (BitVec 16)) : State :=
  running.setChan 3 { Channel.powerOn with state := x, closePending := close }

theorem witness_ChannelOpenGrantsEightCredits :
    (∀ x ∈ [ChanState.disabled, .opened, .draining, .fault],
      Takes (chanIn x none) (desc 7 6 [(4, 1, 3), (5, 1, 1)]) ∧ ((chanIn x none).chan 3).state = x) := by decide +kernel

theorem witness_ChannelCloseDrainsOrDisables :
    (∀ x ∈ [ChanState.disabled, .opened, .draining, .fault], Takes (chanIn x none) (desc 7 6 [(4, 1, 3), (5, 1, 2)]))
    ∧ (Takes (asked live (ask 64#16)) (desc 7 6 [(5, 1, 2)]) ∧ 0 < ((asked live (ask 64#16)).chan 0).unanswered)
    ∧ Takes (busy (chanIn .opened none) (.lc 3) true (.response { verdict := .miss })) (desc 7 6 [(4, 1, 3), (5, 1, 2)]) := by
  decide +kernel

theorem witness_ChannelResetDisablesFromAnyState :
    (∀ x ∈ [ChanState.disabled, .opened, .draining, .fault], Takes (chanIn x none) (desc 7 6 [(4, 1, 3), (5, 1, 3)]))
    ∧ Takes (chanIn .draining (some 9#16)) (desc 7 6 [(4, 1, 3), (5, 1, 3)])
    ∧ Takes (busy (chanIn .draining (some 9#16)) (.lc 3) false (.response { verdict := .miss }))
      (desc 7 6 [(4, 1, 3), (5, 1, 3)]) := by decide +kernel

/-- SWEEP descriptors at the ends of their ranges, one for each action. -/
def sweepDescriptors : List Descriptor :=
  [desc 7 20 [(4, 1, 255), (5, 1, 7), (8, 2, 255), (10, 2, 255)], desc 7 20 [(4, 1, 15), (6, 1, 1)],
   desc 7 20 [(6, 1, 2), (12, 2, 255)], desc 7 20 [(6, 1, 3), (7, 1, 63)], desc 7 20 [(6, 1, 4)]]

theorem witness_SweepStartsAWalk :
    (sweepDescriptors.all fun d => decide (Takes running d ∧ checkSweep d = true)) = true
    ∧ ∀ x ∈ [SweepState.running, .suspending, .suspended], Takes (sweeping running x) (desc 7 20 []) := by decide +kernel

theorem witness_SweepSuspendResumeAndAbort :
    (∀ x ∈ [SweepState.idle, .running, .suspending, .suspended], ∀ k ∈ [21, 22, 23],
      Takes (sweeping running x) (desc 7 k [])) ∧ (sweeping running .suspended).atTable .su = false
    ∧ Takes { sweeping running .suspended with
        sweep := { (sweeping running .suspended).sweep with pendingSweep := some 9#16 } } (desc 7 23 []) := by
  decide +kernel

/-- The frames of test_frames_refused and test_frames_read, at the boundary lengths and kinds of the tests. -/
theorem witness_FrameTestsRunInOrder :
    let c : List Byte → Prop := fun f => (crc (f.take (f.length - 2))).toNat = natBE (f.drop (f.length - 2))
    let kind4 : List Byte := [0x04#8, 0x01#8, 0xC1#8, 0xEA#8]
    let wrong : List Byte := [0x04#8, 0x01#8, 0xC1#8, 0xEB#8]
    let hold : List Byte := [0x03#8, 0x08#8, 0x20#8, 0x3F#8, 0x04#8, 0x00#8, 0x3C#8, 0xFF#8, 0xA2#8]
    [0x03#8, 0x08#8, 0x20#8].length < 4 ∧ ¬ c wrong ∧ (c kind4 ∧ 3 < natBE (kind4.take 1))
    ∧ (c hold ∧ natBE (hold.take 1) = 3 ∧ hold.length = 9)
    ∧ ((chanIn .opened none).chan 3).state = .opened ∧ classifyFrame wrong = .error .badCheck := by decide +kernel

/-- An empty queue; and seven requests unanswered with an operation at the table. -/
theorem witness_RequestArrivingInOpenIsQueued :
    let s := chanIn .opened none
    let b := busy (s.setChan 3 { s.chan 3 with
      unanswered := 7, queue := List.replicate 7 { tag := 1#8, body := ask 1#16, bad := none } }) (.lc 3) false
        (.response { verdict := .miss })
    ((s.chan 3).state = .opened ∧ (s.chan 3).unanswered < 8 ∧ (s.chan 3).queue = [] ∧ badField (ask 16383#16) = none)
    ∧ ((b.chan 3).state = .opened ∧ (b.chan 3).unanswered < 8 ∧ b.atTable (.lc 3) = true)
    ∧ (let x := busy (s.setChan 3 { s.chan 3 with
        unanswered := 1, queue := [{ tag := 1#8, body := .peek 16#8 0#128, bad := some .domain }] }) (.lc 3) true
          (.response { verdict := .miss })
      (x.chan 3).state = .opened ∧ (x.chan 3).unanswered < 8 ∧ x.atTable (.lc 3) = true) := by decide

theorem witness_BadRequestIsAnsweredWithoutTheTable :
    let s := chanIn .opened none
    (s.chan 3).state = .opened ∧ (s.chan 3).unanswered = 0 ∧ (s.chan 3).queue = [] ∧ s.atTable (.lc 3) = false
    ∧ badField (.lookup 16#8 0#8 1#16 0#128) = some .domain ∧ badField (.lookup 15#8 2#8 1#16 0#128) = some .learnFlag
    ∧ badField (.lookup 15#8 1#8 0#16 0#128) = some .length ∧ badField (.lookup 15#8 1#8 16384#16 0#128) = some .length
    ∧ badField (.lookup 15#8 1#8 16383#16 0#128) = none ∧ badField (.peek 16#8 0#128) = some .domain
    ∧ badField (.hold 8256#16 0#8 0#16) = some .handle ∧ badField (.hold 8255#16 0#8 0#16) = none := by decide

theorem witness_RequestArrivingOutOfOpen :
    let s := chanIn .draining none
    ((chanIn .disabled none).chan 3).state = .disabled ∧ ((chanIn .fault none).chan 3).state = .fault
    ∧ ((s.chan 3).state = .draining ∧ (s.chan 3).unanswered = 0)
    ∧ (let b := s.setChan 3 { s.chan 3 with unanswered := 7 }
      (b.chan 3).state = .draining ∧ 0 < (b.chan 3).unanswered ∧ (b.chan 3).unanswered < 8) := by decide

theorem witness_FaultEntryDiscardsAndNotifies :
    classifyFrame [0x03#8, 0x08#8, 0x20#8] = .error .badSize
    ∧ (∀ x ∈ [ChanState.disabled, .opened, .draining, .fault], ((chanIn x none).chan 3).state = x)
    ∧ ((chanIn .draining (some 9#16)).chan 3).closePending = some 9#16
    ∧ (let s := (chanIn .opened none).setChan 3 { (chanIn .opened none).chan 3 with unanswered := 8 }
      (s.chan 3).state = .opened ∧ 8 ≤ (s.chan 3).unanswered) := by decide

/-- Lengths 1700 and 1701 stand on both sides of the tokens, 1,500 + 100 × 2. -/
theorem witness_LookupHitOnAnActiveRecord :
    ∀ m ∈ [1700, 1701],
      let n := BitVec.ofNat 16 m
      let s := asked live (ask n)
      s.nextGrant = some (.lc 0) ∧ (s.chan 0).queue.head? = some { tag := 7#8, body := ask n, bad := none }
      ∧ s.domains[1].enabled = true ∧ Finds s
      ∧ ((s.table.search s.seed 1 (77#128 &&& s.domains[1].mask)).1.dir 820).state = .active := by decide +kernel

theorem witness_LookupHitOnOtherRecords :
    ∀ x ∈ [onHold, fresh, closed .retired, closed .idle, closed .swept],
      let s := asked x (ask 64#16)
      s.nextGrant = some (.lc 0) ∧ (s.chan 0).queue.head? = some { tag := 7#8, body := ask 64#16, bad := none }
      ∧ s.domains[1].enabled = true ∧ Finds s
      ∧ ((s.table.search s.seed 1 (77#128 &&& s.domains[1].mask)).1.dir 820).state = (x.table.dir 820).state := by
  decide +kernel

/-- A part with domain 1 in a learn mode with a quota, and some slots in use. -/
def learning (m : LearnMode) (quota : Nat) (hs : List Nat) : State :=
  let e : DomainEntry := { DomainEntry.powerOn with enabled := true, learnMode := m, learnProfile := 1, quota := quota }
  let t := full hs
  asked { live with
    domains := live.domains.set 1 e
    table := { t with slots := t.slots.map (fun p => (p.1, { p.2 with body := Body.zero })) } } (ask 1500#16)

theorem witness_LookupMissLearnsOrSaysWhy :
    ∀ s ∈ [learning .off 1 [], learning .confirm 0 [], learning .confirm 1 (candidates 205#11), learning .confirm 1 [],
        learning .auto 1 []],
      s.nextGrant = some (.lc 0) ∧ (s.chan 0).queue.head? = some { tag := 7#8, body := ask 1500#16, bad := none }
      ∧ s.domains[1].enabled = true ∧ (s.table.search s.seed 1 (77#128 &&& s.domains[1].mask)).2 = none := by
  decide +kernel

/-- What placement answers in the three tables: none, and handle 820 twice. -/
theorem witness_placement_for_learning :
    (learning .confirm 1 (candidates 205#11)).table.placement (bucket 0#11 1 77#128) = none
    ∧ (learning .confirm 1 []).table.placement (bucket 0#11 1 77#128) = some 820
    ∧ (learning .auto 1 []).table.count 1 < (learning .auto 1 []).domains[1].quota := by decide +kernel

theorem witness_PeekReportsAndChangesNothing :
    (∀ x ∈ [live, onHold], Finds x ∧ x.domains[1].enabled = true)
    ∧ (∀ x ∈ [live, onHold, running], (asked x (.peek 1#8 77#128)).nextGrant = some (.lc 0)
        ∧ ((asked x (.peek 1#8 77#128)).chan 0).queue.head? = some { tag := 7#8, body := .peek 1#8 77#128, bad := none })
    ∧ running.domains[1].enabled = false := by decide +kernel

theorem witness_HoldRequestIsApplied :
    (∀ x ∈ [live, onHold, fresh, closed .idle, struck live],
      (asked x (.hold 820#16 4#8 65535#16)).nextGrant = some (.lc 0))
    ∧ live.table.Current 820 4#8 ∧ ¬ live.table.Current 820 5#8 ∧ onHold.table.Current 820 4#8
    ∧ (closed .idle).table.Current 820 4#8 ∧ fresh.table.Current 820 255#8
    ∧ ((struck live).table.Current 820 4#8 ∧ (struck live).table.bad 820 = true) ∧ live.table.bad 820 = false := by
  decide +kernel

/-- The lease timer waiting for an operation on handle 820, at a time. -/
def timerWaits (s : State) (op : TimerOp) (n : Nat) : State :=
  { s with timer := { s.timer with timeBase := n, waiting := some (op, 820) } }

theorem witness_ExpiryAndHoldEndAtTheTable :
    (∀ x ∈ [live, fresh, struck live, onHold, struck onHold], ∀ op ∈ [TimerOp.expiry, .holdEnd],
      (timerWaits x op 1230).nextGrant = some .lt)
    ∧ queueTime 820 live.table.expiryQ = some 1230 ∧ queueTime 820 fresh.table.expiryQ = some 1500
    ∧ queueTime 820 (struck live).table.expiryQ = some 1230 ∧ queueTime 820 onHold.table.expiryQ = none
    ∧ queueTime 820 onHold.table.holdQ = some 1100 ∧ queueTime 820 (struck onHold).table.holdQ = some 1100
    ∧ (struck onHold).table.bad 820 = true ∧ (onHold.table.dir 820).state = .held := by decide +kernel

/-- Two records due at 1100, handle 820 in the hold queue and handle 900 in the expiry queue: 820 comes first. -/
theorem witness_TimerPresentsTheFirstDueEntry :
    let s := { onHold with table := onHold.table.setExpiryQ [(1100, 900), (1200, 4)] }
    (atTime s 1100).timer.waiting = none ∧ (atTime s 1100).atTable .lt = false
    ∧ QueueInv s.table.expiryQ ∧ QueueInv s.table.holdQ
    ∧ (∀ p ∈ s.table.expiryQ, 1100 < p.1 ∨ (1100 = p.1 ∧ 820 < p.2)) ∧ s.table.holdQ = [(1100, 820)]
    ∧ (busy s .lt false .timer).atTable .lt = true := by
  refine ⟨by decide, by decide, ?_, ?_, by decide, by decide, by decide⟩
  · unfold QueueInv queueLt; decide
  · unfold QueueInv queueLt; decide

theorem witness_SweepPositionExaminesFourSlots :
    { live with sweep := { live.sweep with state := .running, cursor := 2063, presented := true } }.nextGrant = some .su
    ∧ (∀ x ∈ [(live, RecState.active), (onHold, .held), (fresh, .provisional), (closed .idle, .closing)],
      (x.1.table.dir 820).state = x.2 ∧ x.1.table.bad 820 = false ∧ (x.1.table.body 820).pinned = false)
    ∧ (struck live).table.bad 820 = true ∧ (20#8 &&& 0xFF#8 : Byte) ≠ 21#8 &&& 0xFF#8 := by decide

/-- Cursor 2062 has a position behind it, cursor 2063 has none. -/
theorem witness_SweepPositionEndMovesTheWalk :
    let at_ : SweepState → Nat → State := fun x c => busy { live with
      inExec := some { desc := desc 9 23 [], phase := .aborting }
      sweep := { live.sweep with
        state := x, cursor := c, pendingSweep := some 5#16, pendingSuspend := some 6#16 } } .su false (.position 1 1 1)
    (∀ x ∈ [SweepState.running, .suspending, .aborting], ∀ c ∈ [2062, 2063],
      (at_ x c).opAtTable = some
        { requester := .su, before := live.table, abandoned := false, outcome := .position 1 1 1 }
      ∧ (at_ x c).sweep.state = x ∧ (at_ x c).sweep.cursor = c) ∧ 2062 + 1 < 2064 ∧ 2064 ≤ 2063 + 1
    ∧ ∀ x ∈ [SweepState.idle, .running, .suspending, .aborting],
      let s := busy (sweeping live x) .su true (.position 1 1 1)
      s.opAtTable = some { requester := .su, before := live.table, abandoned := true, outcome := .position 1 1 1 }
      ∧ s.sweep.state = x := by decide

/-- One descriptor for each command that names a record by reference, current for the record of generation `g`. -/
theorem witness_ReferenceTestsRunInOrder :
    (∀ p ∈ [(Instr.holdCommandOperation, 9, live), (.confirmOperation, 11, fresh), (.rejectOperation, 12, fresh),
        (.retireOperation, 13, onHold), (.modifyOperation, 18, live), (.collectOperation, 19, fresh)],
      ∀ x ∈ [p.2.2, struck p.2.2, closed .idle, running],
        let d := desc 7 p.2.1 [(4, 2, 820), (6, 1, (p.2.2.table.dir 820).generation.toNat)]
        (waiting x d).AtGrant (BitVec.ofNat 8 p.2.1) d ∧ (p.1, BitVec.ofNat 8 p.2.1) ∈
          referenceCommands.map (fun q => (q.1, q.2.1))
        ∧ p.2.2.table.Current (fieldAt d 4 2) (BitVec.ofNat 8 (fieldAt d 6 1)) ∧ ¬ running.table.Current 820 4#8)
    ∧ (closed .idle).table.Current 820 4#8 ∧ ¬ (closed .idle).table.Current 820 255#8 := by decide +kernel

theorem witness_HoldConfirmModifyCollectComplete :
    let d : Nat → Nat → Descriptor := fun k g =>
      desc 7 k [(4, 2, 820), (6, 1, g), (8, 2, 255), (10, 1, 63), (11, 1, 1), (12, 4, 65535), (16, 1, 15)]
    (∀ k ∈ [9, 18, 19], ∀ x ∈ [live, onHold],
      (waiting x (d k 4)).AtGrant (BitVec.ofNat 8 k) (d k 4) ∧ x.table.Current 820 4#8 ∧ x.table.bad 820 = false)
    ∧ (waiting fresh (d 11 255)).AtGrant 11#8 (d 11 255) ∧ fresh.table.Current 820 255#8
    ∧ fieldAt (d 11 255) 8 2 = (255#8 : Byte).toNat ∧ fieldAt (d 11 255) 10 1 = (63 : Fin 64).val := by decide +kernel

theorem witness_RecordsAreHandedToTheHost :
    (∀ k ∈ [12, 10], (waiting fresh (desc 7 k [(4, 2, 820), (6, 1, 255)])).AtGrant (BitVec.ofNat 8 k)
      (desc 7 k [(4, 2, 820), (6, 1, 255)]))
    ∧ (waiting live (desc 7 13 [(4, 2, 820), (6, 1, 4)])).AtGrant 13#8 (desc 7 13 [(4, 2, 820), (6, 1, 4)])
    ∧ (waiting (closed .idle) (desc 7 14 [])).AtGrant 14#8 (desc 7 14 [])
    ∧ fresh.table.learned = [820] ∧ live.table.learned = [] ∧ live.table.closed = []
    ∧ (closed .idle).table.closed = [820] ∧ (struck (closed .idle)).table.bad 820 = true
    ∧ ((closed .damaged).table.dir 820).closeReason = some .damaged
    ∧ live.domains[(live.table.dir 820).domain].autoRelease = false := by decide +kernel

theorem witness_InsertFindQueryComplete :
    let d : Nat → Descriptor := fun k => desc 7 k [(4, 1, 1), (16, 16, 77)]
    let q := desc 7 17 [(4, 2, 820), (6, 1, 4)]
    (∀ k ∈ [15, 16], ∀ x ∈ [live, running], (waiting x (d k)).AtGrant (BitVec.ofNat 8 k) (d k) ∧ fieldAt (d k) 4 1 = 1)
    ∧ live.domains[1].enabled = true ∧ running.domains[1].enabled = false ∧ Finds live
    ∧ (let x := learning .off 1 []
      (x.table.search x.seed 1 77#128).2 = none ∧ x.table.placement (bucket x.seed 1 77#128) = some 820
      ∧ x.table.count 1 < x.domains[1].quota)
    ∧ (waiting live q).AtGrant 17#8 q ∧ live.table.Current 820 4#8 ∧ (closed .damaged).table.Current 820 4#8
    ∧ ¬ running.table.Current 820 4#8 ∧ (struck live).table.bad 820 = true := by decide +kernel

theorem witness_SeedAndDomainChangeWhenAllowed :
    let d := desc 7 2 [(4, 1, 1), (8, 2, 0x106)]
    (waiting running (desc 7 1 [(4, 2, 2047)])).AtGrant 1#8 (desc 7 1 [(4, 2, 2047)])
    ∧ cellsWf Slot.powerOn running.table.slots ∧ (live.table.dir 820).state ≠ .free
    ∧ (waiting live d).AtGrant 2#8 d ∧ fieldAt d 4 1 = (1 : Fin 16).val ∧ fieldAt d 5 1 = LearnMode.off.code
    ∧ 0 < live.table.count 1 ∧ (BitVec.ofNat 128 (fieldAt d 32 16) : Key) ≠ live.domains[1].mask
    ∧ fieldAt d 14 2 < live.table.count 1 ∧ running.table.count 1 = 0 := by decide +kernel

/-- A channel whose operation ends, with a bad request and a good one behind its head. -/
theorem witness_OperationEndsDeliverTheirResults :
    let q : Request := { tag := 1#8, body := ask 1#16, bad := none }
    let b : Request := { tag := 2#8, body := .peek 16#8 0#128, bad := some .domain }
    let s : ChanState → List Request → State := fun x l => busy ((chanIn x (some 9#16)).setChan 3
      { (chanIn x (some 9#16)).chan 3 with queue := q :: l, unanswered := l.length + 1 }) (.lc 3) false
        (.response { verdict := .miss })
    (∀ x ∈ [ChanState.opened, .draining], ∀ l ∈ [[], [b], [b, q]],
      ((s x l).chan 3).state = x ∧ ((s x l).chan 3).queue = q :: l
      ∧ ((s x l).chan 3).unanswered = ((s x l).chan 3).queue.length + ((s x l).chan 3).waitingAnswers.length)
    ∧ (let a : ChanState → List Request → State := fun x l => busy ((chanIn x (some 9#16)).setChan 3
        { (chanIn x (some 9#16)).chan 3 with queue := l, unanswered := l.length }) (.lc 3) true
          (.response { verdict := .miss })
      ∀ x ∈ [ChanState.disabled, .fault, .opened, .draining], ∀ l ∈ [[], [b], [b, q]],
        ((a x l).chan 3).state = x ∧ ((a x l).chan 3).queue = l ∧ ((a x l).chan 3).closePending = some 9#16
        ∧ ((a x l).chan 3).unanswered = ((a x l).chan 3).queue.length + ((a x l).chan 3).waitingAnswers.length)
    ∧ (busy { live with inExec := some { desc := desc 9 19 [], phase := .atTable } } .cp false
        (.completion .ok .none)).inExec.isSome = true := by decide

end Sys2Proof.Tests
end

