-- ==== Sys2Proof/Proofs/Generations.lean ====
section
/-! PROOF. The life of a record in its slot (R5): what every shared operation, every table operation and every command but
power-on reset and the end of its pass can make of one slot. It keeps its record, is freed at the next generation, or is
FREE and takes a record at the generation it has. -/

namespace Sys2Proof.Machine

variable {s t : State} {a b c : FlowTable} {k : Nat}

/-! ### What can happen to a slot -/

/-- The body fields that a record keeps from its creation on (R4, R9). -/
def Body.identity (b : Body) : Key × Origin × Nat := (b.key, b.origin, b.created)

/-- A slot holds the record that it held, or holds none as before; its generation and domain stay. -/
structure FlowTable.SameRecord (t u : FlowTable) (h : Nat) : Prop where
  free_iff : (u.dir h).state = .free ↔ (t.dir h).state = .free
  generation : (u.dir h).generation = (t.dir h).generation
  domain : (u.dir h).domain = (t.dir h).domain
  identity : (u.body h).identity = (t.body h).identity

/-- A slot has entered FREE, at the next generation (R5, R15). -/
structure FlowTable.Freed (t u : FlowTable) (h : Nat) : Prop where
  before : (t.dir h).state ≠ .free
  after : (u.dir h).state = .free
  generation : (u.dir h).generation = (t.dir h).generation + 1#8

/-- A FREE slot has taken a record, at the generation it had (R5, R13). -/
structure FlowTable.Created (t u : FlowTable) (h : Nat) : Prop where
  before : (t.dir h).state = .free
  after : (u.dir h).state ≠ .free
  generation : (u.dir h).generation = (t.dir h).generation

/-- What an operation that creates no record can do to a slot. -/
def FlowTable.KeptOrFreed (t u : FlowTable) (h : Nat) : Prop := t.SameRecord u h ∨ t.Freed u h

/-- What one table operation can do to a slot. -/
def FlowTable.LifeStep (t u : FlowTable) (h : Nat) : Prop := t.KeptOrFreed u h ∨ t.Created u h

theorem FlowTable.SameRecord.refl (t : FlowTable) (h : Nat) : t.SameRecord t h := ⟨.rfl, rfl, rfl, rfl⟩

theorem FlowTable.SameRecord.trans (x : a.SameRecord b k) (y : b.SameRecord c k) : a.SameRecord c k :=
  ⟨y.free_iff.trans x.free_iff, y.generation.trans x.generation, y.domain.trans x.domain, y.identity.trans x.identity⟩

theorem FlowTable.SameRecord.keptOrFreed (x : a.SameRecord b k) : a.KeptOrFreed b k := .inl x

theorem FlowTable.KeptOrFreed.lifeStep (x : a.KeptOrFreed b k) : a.LifeStep b k := .inl x

theorem FlowTable.SameRecord.lifeStep (x : a.SameRecord b k) : a.LifeStep b k := x.keptOrFreed.lifeStep

/-- What a slot keeps is read from the slot alone. -/
theorem FlowTable.SameRecord.of_slot (e : c.slot k = b.slot k) (x : a.SameRecord b k) : a.SameRecord c k := by
  have dir : c.dir k = b.dir k := congrArg Slot.dir e
  have body : c.body k = b.body k := congrArg Slot.body e
  exact ⟨dir ▸ x.free_iff, dir ▸ x.generation, dir ▸ x.domain, body ▸ x.identity⟩

theorem FlowTable.LifeStep.of_eq (e : b = a) : a.LifeStep b k := e ▸ (FlowTable.SameRecord.refl a k).lifeStep

theorem FlowTable.SameRecord.trans_freed (x : a.SameRecord b k) (y : b.Freed c k) : a.Freed c k :=
  ⟨fun f => y.before (x.free_iff.mpr f), y.after, by rw [y.generation, x.generation]⟩

theorem FlowTable.Freed.trans_same (x : a.Freed b k) (y : b.SameRecord c k) : a.Freed c k :=
  ⟨x.before, y.free_iff.mpr x.after, y.generation.trans x.generation⟩

/-- Without creations a slot is freed at most once. -/
theorem FlowTable.KeptOrFreed.trans (x : a.KeptOrFreed b k) (y : b.KeptOrFreed c k) : a.KeptOrFreed c k := by
  rcases x with x | x <;> rcases y with y | y
  · exact .inl (x.trans y)
  · exact .inr (x.trans_freed y)
  · exact .inr (x.trans_same y)
  · exact absurd x.after y.before

/-- An operation that follows a search does to a slot what it does alone: the search keeps the slot's record. -/
theorem FlowTable.SameRecord.trans_lifeStep (x : a.SameRecord b k) (y : b.LifeStep c k) : a.LifeStep c k := by
  rcases y with y | y
  · exact (x.keptOrFreed.trans y).lifeStep
  · exact .inr ⟨x.free_iff.mp y.before, y.after, y.generation.trans x.generation⟩

/-- R5 for one slot, from what has happened to it. -/
theorem FlowTable.LifeStep.generation_law (x : a.LifeStep b k) :
    ((a.dir k).state ≠ .free → (b.dir k).state = .free →
      (b.dir k).generation.toNat = ((a.dir k).generation.toNat + 1) % 256)
    ∧ ((a.dir k).state = .free ∨ (b.dir k).state ≠ .free → (b.dir k).generation = (a.dir k).generation)
    ∧ ((a.dir k).state ≠ .free → (b.dir k).state ≠ .free →
      (b.dir k).domain = (a.dir k).domain ∧ (b.body k).key = (a.body k).key
      ∧ (b.body k).origin = (a.body k).origin ∧ (b.body k).created = (a.body k).created) := by
  rcases x with (same | freed) | made
  · have id := same.identity
    simp only [Body.identity, Prod.mk.injEq] at id
    exact ⟨fun n f => absurd (same.free_iff.mp f) n, fun _ => same.generation, fun _ _ => ⟨same.domain, id⟩⟩
  · refine ⟨fun _ _ => by rw [freed.generation, BitVec.toNat_add]; rfl, ?_, fun _ n => absurd freed.after n⟩
    exact fun f => (f.elim freed.before fun n => n freed.after).elim
  · exact ⟨fun n => absurd made.before n, fun _ => made.generation, fun n => absurd made.before n⟩

/-! ### The identity of a body under the shared operations -/

section Identity
variable (t : FlowTable) (h k : Nat)

theorem FlowTable.identity_modifyBody {f : Body → Body} (e : (f (t.body h)).identity = (t.body h).identity) :
    ((t.modifyBody h f).body k).identity = (t.body k).identity := by
  rw [FlowTable.body_modifyBody]
  split
  next q => rw [q, e]
  next => rfl

@[simp] theorem FlowTable.identity_damage : ((t.damage h).body k).identity = (t.body k).identity := by
  rw [FlowTable.body_damage]
  split
  next q => rw [q]; rfl
  next => rfl

@[simp] theorem FlowTable.identity_close (r : CloseReason) :
    ((t.close h r false).body k).identity = (t.body k).identity := by
  rw [FlowTable.body_close]
  split
  next q => rw [q]; rfl
  next => rfl

@[simp] theorem FlowTable.identity_refresh (now : Nat) : ((t.refresh h now).body k).identity = (t.body k).identity := by
  rw [FlowTable.body_refresh]
  split
  next q => rw [q.1]; rfl
  next => rfl

@[simp] theorem FlowTable.identity_armLease (now i : Nat) :
    ((t.armLease h now i).body k).identity = (t.body k).identity := by
  rw [FlowTable.body_armLease]
  split
  next q => rw [q]; rfl
  next => rfl

@[simp] theorem FlowTable.identity_release (now : Nat) : ((t.release h now).body k).identity = (t.body k).identity := by
  rw [FlowTable.body_release]
  split
  next q => rw [q]; rfl
  next => rfl

@[simp] theorem FlowTable.identity_holdRule {now ticks : Nat} (n : ticks > 0) :
    ((t.holdRule h now ticks).body k).identity = (t.body k).identity := by
  rw [FlowTable.body_holdRule _ _ _ _ _ n]
  split
  next q => rw [q]; rfl
  next => rfl

end Identity

@[simp] theorem Body.identity_counted (x : Body) (length : Nat) (conforms : Bool) :
    (x.counted length conforms).identity = x.identity := rfl

@[simp] theorem Body.identity_assignProfile (x : Body) (ps : Vector Profile 64) (p : Fin 64) (now : Nat) :
    (x.assignProfile ps p now).identity = x.identity := rfl

@[simp] theorem Body.identity_metered (x : Body) (ps : Vector Profile 64) (now length : Nat) :
    (x.metered ps now length).1.identity = x.identity := by
  unfold Body.metered
  split <;> rfl

@[simp] theorem Body.identity_modifyFields (d : Descriptor) (ps : Vector Profile 64) (now : Nat) (x : Body) :
    (modifyFields d ps now x).identity = x.identity := by
  unfold modifyFields Body.identity Body.assignProfile
  split_ifs <;> rfl

/-! ### The shared operations on one slot -/

section Shared
variable {h : Nat} (k : Nat)

theorem FlowTable.modifyBody_sameRecord {f : Body → Body} (e : (f (a.body h)).identity = (a.body h).identity) :
    a.SameRecord (a.modifyBody h f) k :=
  ⟨by simp, by simp, by simp, a.identity_modifyBody h k e⟩

/-- A directory write that leaves a record in the slot, at its generation and domain, keeps the record. -/
theorem FlowTable.sameRecord_of_dir {e : DirEntry} (w : b.dir k = if k = h then e else a.dir k)
    (n : (a.dir h).state ≠ .free) (n' : e.state ≠ .free) (g : e.generation = (a.dir h).generation)
    (d : e.domain = (a.dir h).domain) (i : (b.body k).identity = (a.body k).identity) :
    a.SameRecord b k := by
  by_cases q : k = h
  · subst q
    rw [if_pos rfl] at w
    exact ⟨by simp [w, n, n'], by rw [w, g], by rw [w, d], i⟩
  · rw [if_neg q] at w
    exact ⟨by rw [w], by rw [w], by rw [w], i⟩

theorem FlowTable.damage_sameRecord (n : (a.dir h).state ≠ .free) : a.SameRecord (a.damage h) k :=
  sameRecord_of_dir k (a.dir_damage h k) n (by simp) rfl rfl (a.identity_damage h k)

/-- An error mark is no field that a record keeps (R33). -/
theorem FlowTable.setBad_sameRecord {x : Bool} : a.SameRecord (a.setSlot h { a.slot h with bad := x }) k := by
  have dir : (a.setSlot h { a.slot h with bad := x }).dir k = a.dir k := by
    simp only [FlowTable.dir, slot_setSlot]; split <;> simp_all
  have body : (a.setSlot h { a.slot h with bad := x }).body k = a.body k := by
    simp only [FlowTable.body, slot_setSlot]; split <;> simp_all
  exact ⟨by rw [dir], by rw [dir], by rw [dir], by rw [body]⟩

theorem FlowTable.release_sameRecord (now : Nat) (n : (a.dir h).state ≠ .free) : a.SameRecord (a.release h now) k :=
  sameRecord_of_dir k (a.dir_release h k now) n (by simp) rfl rfl (a.identity_release h k now)

theorem FlowTable.holdRule_sameRecord (now ticks : Nat) (n : (a.dir h).state ≠ .free) :
    a.SameRecord (a.holdRule h now ticks) k := by
  by_cases p : ticks > 0
  · exact sameRecord_of_dir k (a.dir_holdRule h k now ticks p) n (by simp) rfl rfl (a.identity_holdRule h k p)
  · obtain rfl : ticks = 0 := by omega
    by_cases e : (a.dir h).state = .held
    · rw [a.holdRule_zero_held h now e]; exact release_sameRecord k now n
    · rw [a.holdRule_zero_other h now e]; exact .refl a k

theorem FlowTable.free_keptOrFreed (n : (a.dir h).state ≠ .free) : a.KeptOrFreed (a.free h) k := by
  by_cases q : k = h
  · subst q; exact .inr ⟨n, by simp [dir_free], by simp [dir_free]⟩
  · exact .inl ⟨by simp [dir_free, q], by simp [dir_free, q], by simp [dir_free, q], by simp⟩

theorem FlowTable.close_keptOrFreed (r : CloseReason) (auto : Bool) (n : (a.dir h).state ≠ .free) :
    a.KeptOrFreed (a.close h r auto) k := by
  cases auto with
  | true => exact free_keptOrFreed k n
  | false => exact .inl (sameRecord_of_dir k (a.dir_close h k r) n (by simp) rfl rfl (a.identity_close h k r))

theorem FlowTable.create_lifeStep {x : RecState} (d : Fin 16) (y : Body) (f : (a.dir h).state = .free) (n : x ≠ .free) :
    a.LifeStep (a.create h x d y) k := by
  by_cases q : k = h
  · subst q; exact .inr ⟨f, by simp [dir_create, n], by simp [dir_create]⟩
  · exact .inl (.inl ⟨by simp [dir_create, q], by simp [dir_create, q], by simp [dir_create, q], by simp [body_create, q]⟩)

/-- A search damages records at most. -/
theorem FlowTable.search_sameRecord (seed : BitVec 11) (d : Fin 16) (key : Key) :
    a.SameRecord (a.search seed d key).1 k := by
  rcases a.searchIn_slot d key k (candidates (bucket seed d key)) with e | ⟨-, -, m, -, e⟩
  · exact .of_slot e (.refl a k)
  · exact .of_slot e (damage_sameRecord k (fun f => by simp [DirEntry.matchable, f] at m))

end Shared

/-! ### The requests of the channels at the table (chapter 5) -/

section Requests
variable (k : Nat)

theorem FlowTable.hit_sameRecord (ps : Vector Profile 64) (h now length : Nat) :
    a.SameRecord (a.hit ps h now length).1 k := by
  unfold FlowTable.hit
  split
  · have m : a.SameRecord (a.modifyBody h
        (fun _ => ((a.body h).metered ps now length).1.counted length ((a.body h).metered ps now length).2)) k :=
      FlowTable.modifyBody_sameRecord k (by simp)
    exact m.trans ⟨by simp [FlowTable.hitActive], by simp [FlowTable.hitActive], by simp [FlowTable.hitActive],
      by simp [FlowTable.hitActive]⟩
  · exact .refl a k
  · dsimp only; exact FlowTable.modifyBody_sameRecord k rfl
  · exact .refl a k
  · exact .refl a k

theorem FlowTable.learn_lifeStep (dom : DomainEntry) (ps : Vector Profile 64) (ch : Fin 4) (d : Fin 16) (key : Key)
    {h : Nat} (now length : Nat) (f : (a.dir h).state = .free) :
    a.LifeStep (a.learn dom ps ch d key h now length).1 k := by
  unfold FlowTable.learn
  split
  all_goals exact FlowTable.create_lifeStep k _ _ f (by simp)

theorem FlowTable.missed_lifeStep (dom : DomainEntry) (ps : Vector Profile 64) (ch : Fin 4) (d : Fin 16) (key : Key)
    (bk : BitVec 11) (flag : Bool) (now length : Nat) :
    a.LifeStep (a.missed dom ps ch d key bk flag now length).1 k := by
  unfold FlowTable.missed
  split
  · exact .of_eq rfl
  · split
    · split
      next h e => exact FlowTable.learn_lifeStep k dom ps ch d key now length (a.placement_free bk h e).2
      next => exact .of_eq rfl
    · exact .of_eq rfl

theorem State.lookupOp_lifeStep (s : State) (ch : Fin 4) (d : Fin 16) (flag : Bool) (length : Nat) (key : Key) :
    s.table.LifeStep (s.lookupOp ch d flag length key).1 k := by
  have found := s.table.search_sameRecord k s.seed d (key &&& s.domains[d].mask)
  unfold State.lookupOp
  dsimp only
  split
  · exact .of_eq rfl
  · split
    next u h e => rw [e] at found; exact (found.trans (u.hit_sameRecord k _ _ _ _)).lifeStep
    next u e => rw [e] at found; exact found.trans_lifeStep (u.missed_lifeStep k _ _ _ _ _ _ _ _ _)

theorem State.peekOp_lifeStep (s : State) (d : Fin 16) (key : Key) : s.table.LifeStep (s.peekOp d key).1 k := by
  have found := s.table.search_sameRecord k s.seed d (key &&& s.domains[d].mask)
  unfold State.peekOp
  dsimp only
  split
  · exact .of_eq rfl
  · split
    next e => rw [e] at found; exact found.lifeStep
    next e => rw [e] at found; exact found.lifeStep

theorem State.holdOp_lifeStep (s : State) (h : Nat) (generation : Byte) (ticks : Nat) :
    s.table.LifeStep (s.holdOp h generation ticks).1 k := by
  unfold State.holdOp
  dsimp only
  split
  · exact .of_eq rfl
  next current =>
    have n : (s.table.dir h).state ≠ .free := fun f => current (by simp [DirEntry.stale, f])
    split
    · exact .of_eq rfl
    · split
      · exact (FlowTable.damage_sameRecord k n).lifeStep
      · exact (FlowTable.holdRule_sameRecord k _ _ n).lifeStep

end Requests

/-! ### The operations of the lease timer (R108, R117) -/

section Timers
variable (k : Nat)

/-- An entry of the expiry queue is no FREE slot (R104). -/
theorem FlowTable.Inv.expiry_not_free {h : Nat} (i : a.Inv) (q : (queueTime h a.expiryQ).isSome) :
    (a.dir h).state ≠ .free := by
  obtain ⟨-, -, -, -, -, -, -, -, -, -, -, expiry, -⟩ := i
  rcases (expiry h).mp q with e | ⟨e, -⟩ <;> simp [e]

/-- What is due in a queue stands in it. -/
theorem dueIn_isSome {h now : Nat} {q : List (Nat × Nat)} (d : dueIn h now q = true) : (queueTime h q).isSome := by
  unfold dueIn at d
  split at d
  next e => rw [e]; rfl
  next => cases d

theorem State.expiryOp_lifeStep (i : s.table.Inv) (h : Nat) : s.table.LifeStep (s.expiryOp h) k := by
  unfold State.expiryOp
  dsimp only
  split
  next due =>
    have n := i.expiry_not_free (dueIn_isSome due)
    split
    · exact (FlowTable.damage_sameRecord k n).lifeStep
    · split
      · exact (FlowTable.close_keptOrFreed k _ _ n).lifeStep
      · exact (FlowTable.free_keptOrFreed k n).lifeStep
      · exact .of_eq rfl
      · exact .of_eq rfl
      · exact .of_eq rfl
  · exact .of_eq rfl

theorem State.holdEndOp_lifeStep (s : State) (h : Nat) : s.table.LifeStep (s.holdEndOp h) k := by
  unfold State.holdEndOp
  dsimp only
  split
  next held =>
    have n : (s.table.dir h).state ≠ .free := by simp [held.1]
    split
    · exact (FlowTable.damage_sameRecord k n).lifeStep
    · exact (FlowTable.release_sameRecord k _ n).lifeStep
  · exact .of_eq rfl

end Timers

/-! ### Sweep positions (R170, R171) -/

section Sweeps
variable (k : Nat)

theorem sweepAct_keptOrFreed (act : SweepAction) (ps : Vector Profile 64) (ds : Vector DomainEntry 16) (now : Nat)
    {h : Nat} (n : (a.dir h).state ≠ .free) : a.KeptOrFreed (sweepAct act ps ds now h a).1 k := by
  have same : a.KeptOrFreed a k := (FlowTable.SameRecord.refl a k).keptOrFreed
  cases act with
  | count => exact same
  | retire =>
    dsimp only [sweepAct]
    split
    · exact same
    · split
      · exact FlowTable.free_keptOrFreed k n
      · exact FlowTable.close_keptOrFreed k _ _ n
  | reclass =>
    dsimp only [sweepAct]
    split
    · exact same
    · dsimp only; exact .inl (FlowTable.modifyBody_sameRecord k rfl)
  | reprofile =>
    dsimp only [sweepAct]
    split
    · exact same
    · dsimp only; exact .inl (FlowTable.modifyBody_sameRecord k rfl)
  | release =>
    dsimp only [sweepAct]
    split
    · exact same
    · exact (FlowTable.release_sameRecord k now n).keptOrFreed

theorem sweepSlot_keptOrFreed (p : SweepParams) (ps : Vector Profile 64) (ds : Vector DomainEntry 16) (now h : Nat)
    (acc : FlowTable × SweepCounts) : acc.1.KeptOrFreed (sweepSlot p ps ds now acc h).1 k := by
  have same : acc.1.KeptOrFreed acc.1 k := (FlowTable.SameRecord.refl acc.1 k).keptOrFreed
  unfold sweepSlot
  dsimp only
  split
  · exact same
  next n =>
    split
    · exact same
    · split
      · exact (FlowTable.damage_sameRecord k n).keptOrFreed
      · split
        · exact same
        · exact sweepAct_keptOrFreed k _ ps ds now n

theorem sweepSlots_keptOrFreed (p : SweepParams) (ps : Vector Profile 64) (ds : Vector DomainEntry 16) (now : Nat)
    (hs : List Nat) (acc : FlowTable × SweepCounts) :
    acc.1.KeptOrFreed (hs.foldl (sweepSlot p ps ds now) acc).1 k := by
  induction hs generalizing acc with
  | nil => exact (FlowTable.SameRecord.refl acc.1 k).keptOrFreed
  | cons h hs ih => exact (sweepSlot_keptOrFreed k p ps ds now h acc).trans (ih _)

theorem State.positionOp_lifeStep (s : State) : s.table.LifeStep s.positionOp.1 k :=
  (sweepSlots_keptOrFreed k s.sweep.params s.profiles s.domains s.timer.timeBase (positionHandles s.sweep.cursor)
    (s.table, ⟨0, 0, 0⟩)).lifeStep

end Sweeps

/-! ### The operations of commands (chapters 3, 7 and 9) -/

section Commands
variable (k : Nat) (d : Descriptor)

/-- A command on a reference does to a slot what its own act does to the slot of a record. -/
theorem onReference_lifeStep {admits : RecState → Bool} {act : Descriptor → State → State × Status × Results}
    (own : (s.table.dir (handleOf d)).state ≠ .free → s.table.LifeStep (act d s).1.table k) :
    s.table.LifeStep (onReference admits act d s).1.table k := by
  rcases onReference_cases (s := s) admits act d with e | ⟨e, n, -⟩ | ⟨e, n, -⟩
  · rw [e]; exact .of_eq rfl
  · rw [e]; exact (FlowTable.damage_sameRecord k n).lifeStep
  · rw [e]; exact own n

theorem setSeedOp_table : (setSeedOp d s).1.table = s.table := by
  unfold setSeedOp
  dsimp only
  split <;> rfl

theorem setDomainOp_table : (setDomainOp d s).1.table = s.table := by
  unfold setDomainOp
  dsimp only
  split
  · rfl
  · split <;> rfl

/-- The learned list holds no FREE slot (R121). -/
theorem FlowTable.Inv.learned_not_free {h : Nat} (i : a.Inv) (m : h ∈ a.learned) : (a.dir h).state ≠ .free := by
  obtain ⟨-, -, -, -, -, -, -, learned, -⟩ := i
  simp [((learned h).mp m).1]

/-- The closed list holds no FREE slot (R134). -/
theorem FlowTable.Inv.closed_not_free {h : Nat} (i : a.Inv) (m : h ∈ a.closed) : (a.dir h).state ≠ .free := by
  obtain ⟨-, -, -, -, -, closed, -⟩ := i
  simp [(closed h).mp m]

theorem fetchLearnedOp_lifeStep (i : s.table.Inv) : s.table.LifeStep (fetchLearnedOp d s).1.table k := by
  unfold fetchLearnedOp
  split
  · exact .of_eq rfl
  next h rest e =>
    have n := i.learned_not_free (h := h) (by simp [e])
    dsimp only
    split
    · exact (FlowTable.damage_sameRecord k n).lifeStep
    · have unlisted : s.table.SameRecord (s.table.unlist h) k := ⟨by simp, by simp, by simp, by simp⟩
      dsimp only
      exact .inl (.inl (unlisted.trans (FlowTable.modifyBody_sameRecord k rfl)))

theorem fetchClosedOp_lifeStep (i : s.table.Inv) : s.table.LifeStep (fetchClosedOp d s).1.table k := by
  unfold fetchClosedOp
  split
  · exact .of_eq rfl
  next h rest e =>
    have n := i.closed_not_free (h := h) (by simp [e])
    split
    all_goals exact (FlowTable.free_keptOrFreed k n).lifeStep

theorem confirmAct_lifeStep (n : (s.table.dir (handleOf d)).state ≠ .free) :
    s.table.LifeStep (confirmAct d s).1.table k := by
  have confirmed : s.table.SameRecord
      (s.table.setDir (handleOf d) { s.table.dir (handleOf d) with state := .active }) k :=
    FlowTable.sameRecord_of_dir k (FlowTable.dir_setDir _ _ _ _) n (by simp) rfl rfl (by simp)
  have assigned := confirmed.trans (FlowTable.modifyBody_sameRecord (h := handleOf d) (f := fun b =>
    { b.assignProfile s.profiles (profileArg d) s.timer.timeBase with
      cls := classArg d, leaseInterval := leaseArg d, pinned := pinnedArg d, reported := none }) k rfl)
  exact (assigned.trans ⟨by simp [confirmAct], by simp [confirmAct], by simp [confirmAct], by simp [confirmAct]⟩).lifeStep

theorem modifyAct_lifeStep : s.table.LifeStep (modifyAct d s).1.table k := by
  have changed : s.table.SameRecord
      (s.table.modifyBody (handleOf d) (modifyFields d s.profiles s.timer.timeBase)) k :=
    FlowTable.modifyBody_sameRecord k (by simp)
  unfold modifyAct
  dsimp only
  split
  · exact (changed.trans ⟨by simp, by simp, by simp, by simp⟩).lifeStep
  · exact changed.lifeStep

theorem collectAct_lifeStep : s.table.LifeStep (collectAct d s).1.table k := by
  unfold collectAct
  dsimp only
  exact .inl (.inl (FlowTable.modifyBody_sameRecord k rfl))

theorem insertOp_lifeStep : s.table.LifeStep (insertOp d s).1.table k := by
  have found := s.table.search_sameRecord k s.seed (domainOf d) (keyArg d &&& s.domains[domainOf d].mask)
  unfold insertOp
  dsimp only
  split
  · exact .of_eq rfl
  · split
    next e => rw [e] at found; exact found.lifeStep
    next u e =>
      rw [e] at found
      split
      · split
        next h p => exact found.trans_lifeStep (FlowTable.create_lifeStep k _ _ (u.placement_free _ h p).2 (by simp))
        next => exact found.lifeStep
      · exact found.lifeStep

theorem findOp_lifeStep : s.table.LifeStep (findOp d s).1.table k := by
  have found := s.table.search_sameRecord k s.seed (domainOf d) (keyArg d &&& s.domains[domainOf d].mask)
  unfold findOp
  dsimp only
  split
  next e => rw [e] at found; exact found.lifeStep
  next e => rw [e] at found; exact found.lifeStep

theorem queryOp_lifeStep : s.table.LifeStep (queryOp d s).1.table k := by
  unfold queryOp
  dsimp only
  split
  · exact .of_eq rfl
  next current =>
    have n : (s.table.dir (handleOf d)).state ≠ .free := fun f => current (by simp [DirEntry.stale, f])
    split
    · exact .of_eq rfl
    · split
      · exact (FlowTable.damage_sameRecord k n).lifeStep
      · exact .of_eq rfl

/-- The grant of a command's operation does to a slot what the operation does to it. -/
theorem State.commandOperation_lifeStep {kind : Byte} {op : Descriptor → State → State × Status × Results}
    (own : ∀ d, s.table.LifeStep (op d s).1.table k) : s.table.LifeStep (s.commandOperation kind op).table k := by
  rcases State.commandOperation_cases (s := s) kind op with e | ⟨d, g⟩
  · rw [e]; exact .of_eq rfl
  · rw [State.commandOperation_eq g]; exact own d

end Commands

/-! ### What leaves the table alone -/

section Quiet

/-- A take leaves the table to what the taken command does. -/
theorem State.take_table {isRow : Descriptor → Bool} {act : Descriptor → State → State}
    (own : ∀ d (x : State), (act d x).table = x.table) : (s.take isRow act).table = s.table := by
  rcases State.take_cases (s := s) isRow act with e | ⟨-, -, e⟩
  · rw [e]
  · rw [e, own]; rfl

theorem checked_table {check : Descriptor → Bool} {refused : Descriptor → State → Results}
    {act : Descriptor → State → State} (own : ∀ d (x : State), (act d x).table = x.table) (d : Descriptor) (x : State) :
    (checked check refused act d x).table = x.table := by
  rcases checked_cases (s := x) check refused act d with ⟨-, e⟩ | ⟨-, e⟩
  · rw [e, own]
  · rw [e]; rfl

@[simp] theorem State.takeForTable_table (kind : Byte) (check : Descriptor → Bool)
    (refused : Descriptor → State → Results) : (s.takeForTable kind check refused).table = s.table :=
  State.take_table (checked_table fun _ _ => rfl)

@[simp] theorem State.endDrain_table (ch : Fin 4) : (s.endDrain ch).table = s.table := by simp [State.endDrain]

@[simp] theorem State.serve_table (ch : Fin 4) : (s.serve ch).table = s.table := by
  unfold State.serve
  dsimp only
  split
  · split
    · rfl
    · split <;> simp
  · rfl

@[simp] theorem State.faultChannel_table (ch : Fin 4) (r : FaultReason) : (s.faultChannel ch r).table = s.table := by
  simp [State.faultChannel]

@[simp] theorem State.requestArrives_table (ch : Fin 4) (tag : Byte) (body : RequestBody) :
    (s.requestArrives ch tag body).table = s.table := by
  unfold State.requestArrives
  dsimp only
  split
  · rfl
  · rfl
  · split <;> simp
  · split
    · split <;> rfl
    · simp

@[simp] theorem State.frameArrives_table (ch : Fin 4) (frame : List Byte) :
    (s.frameArrives ch frame).table = s.table := by
  unfold State.frameArrives
  split
  · split <;> simp
  · simp

@[simp] theorem State.completeControl_table (d : Descriptor) (st : Status) :
    (s.completeControl d st).table = s.table := rfl

theorem openChannel_table (d : Descriptor) (x : State) : (openChannel d x).table = x.table := by
  unfold openChannel
  dsimp only
  split <;> rfl

theorem closeChannel_table (d : Descriptor) (x : State) : (closeChannel d x).table = x.table := by
  unfold closeChannel
  dsimp only
  split
  · split <;> rfl
  all_goals rfl

theorem resetChannel_table (d : Descriptor) (x : State) : (resetChannel d x).table = x.table := by simp [resetChannel]

theorem setTimeAct_table (d : Descriptor) (x : State) : (setTimeAct d x).table = x.table := by
  unfold setTimeAct
  split <;> rfl

@[simp] theorem State.completeSweep_table (d : Descriptor) (st : Status) : (s.completeSweep d st).table = s.table := rfl

@[simp] theorem State.endAbort_table : s.endAbort.table = s.table := by
  unfold State.endAbort
  split <;> rfl

@[simp] theorem State.afterPosition_table : s.afterPosition.table = s.table := by
  unfold State.afterPosition
  split
  · split <;> simp
  · split <;> simp
  · simp
  all_goals rfl

theorem sweepAccept_table (d : Descriptor) (x : State) : (sweepAccept d x).table = x.table := by
  unfold sweepAccept
  split <;> simp

theorem sweepSuspendAct_table (d : Descriptor) (x : State) : (sweepSuspendAct d x).table = x.table := by
  unfold sweepSuspendAct
  split <;> rfl

theorem sweepResumeAct_table (d : Descriptor) (x : State) : (sweepResumeAct d x).table = x.table := by
  unfold sweepResumeAct
  split <;> simp

theorem sweepAbortAct_table (d : Descriptor) (x : State) : (sweepAbortAct d x).table = x.table := by
  unfold sweepAbortAct
  split <;> simp

@[simp] theorem State.writeCmdProducer_table (v : Word) : (s.writeCmdProducer v).table = s.table := by
  unfold State.writeCmdProducer
  dsimp only
  split <;> rfl

@[simp] theorem State.writeCplConsumer_table (v : Word) : (s.writeCplConsumer v).table = s.table := by
  unfold State.writeCplConsumer
  split <;> rfl

@[simp] theorem State.writeControl_table (v : Word) : (s.writeControl v).table = s.table := by
  unfold State.writeControl
  dsimp only
  split <;> rfl

@[simp] theorem State.writeWord_table (o : BitVec 12) (v : Word) : (s.writeWord o v).table = s.table := by
  unfold State.writeWord
  dsimp only
  split_ifs <;> simp [State.writeCause, State.writeEnables]

theorem execChannelOperationEnd_table (e : execChannelOperationEnd s = .next t) : t.table = s.table := by
  unfold execChannelOperationEnd at e
  split at e
  · split at e <;> cases e <;> simp
  · cases e; rfl

theorem execCommandOperationEnd_table (e : execCommandOperationEnd s = .next t) : t.table = s.table := by
  unfold execCommandOperationEnd at e
  split at e
  · split at e
    · cases e; rfl
    · split at e <;> cases e <;> rfl
  · cases e; rfl

theorem execSweepPositionEnd_table (e : execSweepPositionEnd s = .next t) : t.table = s.table := by
  unfold execSweepPositionEnd at e
  split at e
  · split at e
    · cases e; split <;> simp
    · cases e; simp
  · cases e; rfl

/-- The rows whose step can change the stored table: the grants, the storage event, and power-on reset with the end of its
pass (R31, R33, R141). -/
def Instr.reachesTable : Instr → Bool
  | .powerOnReset | .initPassEnd | .lookup | .peek | .holdRequest | .expiry | .holdEnd | .sweepPosition
  | .setSeedOperation | .setDomainOperation | .holdCommandOperation | .fetchLearnedOperation | .confirmOperation
  | .rejectOperation | .retireOperation | .fetchClosedOperation | .insertOperation | .findOperation | .queryOperation
  | .modifyOperation | .collectOperation | .uncorrectableError _ => true
  | _ => false

/-- Every other row leaves the table as it is. -/
theorem exec_table_of_not_reachesTable {i : Instr} (q : Instr.reachesTable i = false) (e : exec i s = .next t) :
    t.table = s.table := by
  cases i with
  | tick | timeLowRead => cases e; rfl
  | deadlineDue | holdEndDue | ltOperationEnd => cases e; split <;> simp
  | lookupFrameArrival | peekFrameArrival | holdFrameArrival | badFrameArrival => cases e; simp
  | channelOperationEnd => exact execChannelOperationEnd_table e
  | commandOperationEnd => exact execCommandOperationEnd_table e
  | sweepPositionEnd => exact execSweepPositionEnd_table e
  | setSeed | setDomain | hold | fetchLearned | confirm | reject | retire | fetchClosed | insert | find | query | modify
  | collect => cases e; simp
  | queryDomain | setProfile | queryProfile | setTick => cases e; exact State.take_table (checked_table fun _ _ => rfl)
  | setTime => cases e; exact State.take_table (checked_table setTimeAct_table)
  | channelControlOpen => cases e; exact State.take_table (checked_table openChannel_table)
  | channelControlClose => cases e; exact State.take_table (checked_table closeChannel_table)
  | channelControlReset => cases e; exact State.take_table (checked_table resetChannel_table)
  | sweep => cases e; exact State.take_table (checked_table sweepAccept_table)
  | sweepSuspend => cases e; exact State.take_table sweepSuspendAct_table
  | sweepResume => cases e; exact State.take_table sweepResumeAct_table
  | sweepAbort => cases e; exact State.take_table sweepAbortAct_table
  | unknownCommand => cases e; exact State.take_table fun _ _ => rfl
  | cmdProducerWrite | cplConsumerWrite | causeWrite | causeEnableWrite | runEnableWrite | portReset | windowWrite =>
    cases e; simp [State.writeCause, State.writeEnables]
  | _ => cases q

end Quiet

/-! ### Every command -/

section Every
variable (k : Nat)

theorem execLookup_lifeStep (e : execLookup s = .next t) : s.table.LifeStep t.table k := by
  unfold execLookup at e
  split at e <;> cases e
  · exact s.lookupOp_lifeStep k _ _ _ _ _
  · exact .of_eq rfl

theorem execPeek_lifeStep (e : execPeek s = .next t) : s.table.LifeStep t.table k := by
  unfold execPeek at e
  split at e <;> cases e
  · exact s.peekOp_lifeStep k _ _
  · exact .of_eq rfl

theorem execHoldRequest_lifeStep (e : execHoldRequest s = .next t) : s.table.LifeStep t.table k := by
  unfold execHoldRequest at e
  split at e <;> cases e
  · exact s.holdOp_lifeStep k _ _ _
  · exact .of_eq rfl

theorem execExpiry_lifeStep (i : s.table.Inv) (e : execExpiry s = .next t) : s.table.LifeStep t.table k := by
  unfold execExpiry at e
  split at e <;> cases e
  · exact State.expiryOp_lifeStep k i _
  · exact .of_eq rfl

theorem execHoldEnd_lifeStep (e : execHoldEnd s = .next t) : s.table.LifeStep t.table k := by
  unfold execHoldEnd at e
  split at e <;> cases e
  · exact s.holdEndOp_lifeStep k _
  · exact .of_eq rfl

theorem execSweepPosition_lifeStep (e : execSweepPosition s = .next t) : s.table.LifeStep t.table k := by
  unfold execSweepPosition at e
  split at e <;> cases e
  · rw [State.grant_table]; exact s.positionOp_lifeStep k
  · exact .of_eq rfl

/-- A storage event marks a stored body and changes nothing that a record keeps (R33). -/
theorem execUncorrectableError_lifeStep {h : Nat} (e : execUncorrectableError h s = .next t) :
    s.table.LifeStep t.table k := by
  cases e
  split
  · exact (FlowTable.setBad_sameRecord k).lifeStep
  · exact .of_eq rfl

/-- From a table that meets its law every command but power-on reset and the end of its pass keeps the record of a slot,
frees the slot at the next generation, or creates a record in a FREE slot at the generation it has. -/
theorem exec_lifeStep {i : Instr} (inv : s.table.Inv) (reset : i ≠ .powerOnReset) (pass : i ≠ .initPassEnd)
    (e : exec i s = .next t) : s.table.LifeStep t.table k := by
  by_cases q : Instr.reachesTable i = false
  · exact .of_eq (exec_table_of_not_reachesTable q e)
  cases i with
  | powerOnReset => exact absurd rfl reset
  | initPassEnd => exact absurd rfl pass
  | lookup => exact execLookup_lifeStep k e
  | peek => exact execPeek_lifeStep k e
  | holdRequest => exact execHoldRequest_lifeStep k e
  | expiry => exact execExpiry_lifeStep k inv e
  | holdEnd => exact execHoldEnd_lifeStep k e
  | sweepPosition => exact execSweepPosition_lifeStep k e
  | setSeedOperation => cases e; exact State.commandOperation_lifeStep k fun d => .of_eq (setSeedOp_table d)
  | setDomainOperation => cases e; exact State.commandOperation_lifeStep k fun d => .of_eq (setDomainOp_table d)
  | holdCommandOperation =>
    cases e
    exact State.commandOperation_lifeStep k fun d => onReference_lifeStep k d fun n =>
      (FlowTable.holdRule_sameRecord k _ _ n).lifeStep
  | fetchLearnedOperation =>
    cases e; exact State.commandOperation_lifeStep k fun d => fetchLearnedOp_lifeStep k d inv
  | confirmOperation =>
    cases e
    exact State.commandOperation_lifeStep k fun d => onReference_lifeStep k d (confirmAct_lifeStep k d)
  | rejectOperation =>
    cases e
    exact State.commandOperation_lifeStep k fun d => onReference_lifeStep k d fun n =>
      (FlowTable.free_keptOrFreed k n).lifeStep
  | retireOperation =>
    cases e
    exact State.commandOperation_lifeStep k fun d => onReference_lifeStep k d fun n =>
      (FlowTable.close_keptOrFreed k _ _ n).lifeStep
  | fetchClosedOperation =>
    cases e; exact State.commandOperation_lifeStep k fun d => fetchClosedOp_lifeStep k d inv
  | insertOperation => cases e; exact State.commandOperation_lifeStep k (insertOp_lifeStep k)
  | findOperation => cases e; exact State.commandOperation_lifeStep k (findOp_lifeStep k)
  | queryOperation => cases e; exact State.commandOperation_lifeStep k (queryOp_lifeStep k)
  | modifyOperation =>
    cases e
    exact State.commandOperation_lifeStep k fun d => onReference_lifeStep k d fun _ => modifyAct_lifeStep k d
  | collectOperation =>
    cases e
    exact State.commandOperation_lifeStep k fun d => onReference_lifeStep k d fun _ => collectAct_lifeStep k d
  | uncorrectableError => exact execUncorrectableError_lifeStep k e
  | _ => exact absurd rfl q

end Every

/-- Settles O10: every command makes of a slot one of the three things of `FlowTable.LifeStep`, and R5 holds of each. -/
theorem generationRisesOnlyOnEnteringFree : Obligations.GenerationRisesOnlyOnEnteringFree := by
  refine ⟨fun _ => rfl, ?_⟩
  intro i s t h inv reset pass e
  exact (exec_lifeStep h inv reset pass e).generation_law

end Sys2Proof.Machine
end

section
/-! PROOF. The hash of the flow table (R19, R20, R23): the words of a key and their fold, the bucket as a number, and the
slots that a search examines. -/

namespace Sys2Proof.Machine

/-- A word of a key as a number, w0 the most significant (R20, step 1). -/
theorem keyWord_toNat (k : Key) (i : Nat) : (keyWord k i).toNat = k.toNat / 2 ^ (112 - 16 * i) % 2 ^ 16 := by
  rw [keyWord, BitVec.extractLsb'_toNat, Nat.shiftRight_eq_div_pow]

/-- The terms of R20, step 3, are numbers below 2048, so that nothing is cut from them. -/
theorem bucket_toNat (seed : BitVec 11) (d : Fin 16) (k : Key) :
    (bucket seed d k).toNat =
      ((keyFold k).toNat % 2048) ^^^ ((keyFold k).toNat / 2048) ^^^ (d.val * 128) ^^^ seed.toNat := by
  have fold := (keyFold k).isLt
  have low : (keyFold k).toNat % 2048 < 2 ^ 11 := by omega
  have high : (keyFold k).toNat / 2048 < 2 ^ 11 := by omega
  have domain : d.val * 128 < 2 ^ 11 := by omega
  simp only [bucket, BitVec.toNat_xor, BitVec.toNat_ofNat, Nat.mod_eq_of_lt low, Nat.mod_eq_of_lt high,
    Nat.mod_eq_of_lt domain]

/-- The slots of a search are the four ways of the bucket and the spill entries (R18, R23). -/
theorem mem_candidates {b : BitVec 11} {h : Nat} :
    h ∈ candidates b ↔ h / 4 = b.toNat ∨ Config.spillBase ≤ h ∧ h < Config.slots := by
  simp only [candidates, List.mem_append, List.mem_map, List.mem_range, Config.spillBase, Config.slots]
  constructor
  · rintro (⟨i, _, rfl⟩ | ⟨e, _, rfl⟩)
    · left; omega
    · right; omega
  · rintro (way | spill)
    · exact .inl ⟨h % 4, by omega, by omega⟩
    · exact .inr ⟨h - 8192, by omega, by omega⟩

/-- Settles O16: the fold is the exclusive or of the words, and the bucket of 11 bits is the number of R20. -/
theorem bucketIsTheHashOfDomainAndKey : Obligations.BucketIsTheHashOfDomainAndKey := by
  intro seed d k w f b
  have fold : (keyFold k).toNat = f := by simp only [keyFold, BitVec.toNat_xor, keyWord_toNat, f, w]
  have isBucket : (bucket seed d k).toNat = b := by rw [bucket_toNat, fold]
  refine ⟨isBucket, isBucket ▸ (bucket seed d k).isLt, ?_⟩
  rw [← isBucket]
  rfl

end Sys2Proof.Machine
end

section
/-! PROOF. The seed and the domain table: every row but the two that set them and power-on reset leaves both as they are
(R21, R22, R46). -/

namespace Sys2Proof.Machine

variable {s t : State}

/-- What the place and the key of a record rest on: the seed and the domain table (R19, R20). -/
def State.hashing (s : State) : BitVec 11 × Vector DomainEntry 16 := (s.seed, s.domains)

theorem State.hashing_eq (seed : t.seed = s.seed) (domains : t.domains = s.domains) : t.hashing = s.hashing :=
  Prod.ext seed domains

theorem State.seed_of_hashing (e : t.hashing = s.hashing) : t.seed = s.seed := congrArg Prod.fst e

theorem State.domains_of_hashing (e : t.hashing = s.hashing) : t.domains = s.domains := congrArg Prod.snd e

/-! ### The named updates of the state -/

section Updates
variable (s) (ch : Fin 4) (d : Descriptor) (st : Status)

@[simp] theorem State.setChan_hashing (x : Channel) : (s.setChan ch x).hashing = s.hashing := rfl

@[simp] theorem State.latch_hashing (b : Word) : (s.latch b).hashing = s.hashing := rfl

@[simp] theorem State.unlatch_hashing (b : Word) : (s.unlatch b).hashing = s.hashing := rfl

@[simp] theorem State.endOp_hashing : s.endOp.hashing = s.hashing := rfl

@[simp] theorem State.setSweepState_hashing (x : SweepState) : (s.setSweepState x).hashing = s.hashing := rfl

@[simp] theorem State.completeControl_hashing : (s.completeControl d st).hashing = s.hashing := rfl

@[simp] theorem State.completeSweep_hashing : (s.completeSweep d st).hashing = s.hashing := rfl

@[simp] theorem State.abandon_hashing (r : Requester) : (s.abandon r).hashing = s.hashing :=
  hashing_eq (s.abandon_seed r) (s.abandon_domains r)

@[simp] theorem State.endClose_hashing : (s.endClose ch st).hashing = s.hashing :=
  hashing_eq (s.endClose_seed ch st) (s.endClose_domains ch st)

@[simp] theorem State.endSweep_hashing : (s.endSweep st).hashing = s.hashing :=
  hashing_eq (s.endSweep_seed st) (s.endSweep_domains st)

@[simp] theorem State.endSuspend_hashing : (s.endSuspend st).hashing = s.hashing :=
  hashing_eq (s.endSuspend_seed st) (s.endSuspend_domains st)

@[simp] theorem State.presentPosition_hashing : s.presentPosition.hashing = s.hashing :=
  hashing_eq s.presentPosition_seed s.presentPosition_domains

@[simp] theorem State.presentDue_hashing : s.presentDue.hashing = s.hashing :=
  hashing_eq s.presentDue_seed s.presentDue_domains

@[simp] theorem State.grant_hashing (r : Requester) (u : FlowTable) (o : OpOutcome) : (s.grant r u o).hashing = s.hashing :=
  hashing_eq (s.grant_seed u r o) (s.grant_domains u r o)

@[simp] theorem State.endDrain_hashing : (s.endDrain ch).hashing = s.hashing := by simp [State.endDrain]

@[simp] theorem State.serve_hashing : (s.serve ch).hashing = s.hashing := by
  unfold State.serve
  dsimp only
  split
  · split
    · rfl
    · split <;> simp
  · rfl

@[simp] theorem State.faultChannel_hashing (r : FaultReason) : (s.faultChannel ch r).hashing = s.hashing := by
  simp [State.faultChannel]

@[simp] theorem State.endAbort_hashing : s.endAbort.hashing = s.hashing := by
  unfold State.endAbort
  split <;> simp

@[simp] theorem State.afterPosition_hashing : s.afterPosition.hashing = s.hashing := by
  unfold State.afterPosition
  split
  · split <;> simp
  · split <;> simp
  · simp
  all_goals rfl

end Updates

/-! ### Arrivals and takes -/

section Takes
variable (s) (ch : Fin 4) (d : Descriptor)

@[simp] theorem State.requestArrives_hashing (tag : Byte) (body : RequestBody) :
    (s.requestArrives ch tag body).hashing = s.hashing := by
  unfold State.requestArrives
  dsimp only
  split
  · rfl
  · rfl
  · split <;> simp
  · split
    · split <;> rfl
    · simp

@[simp] theorem State.frameArrives_hashing (frame : List Byte) : (s.frameArrives ch frame).hashing = s.hashing := by
  unfold State.frameArrives
  split
  · split <;> simp
  · simp

/-- A take leaves the seed and the domain table to what the taken command does. -/
theorem State.take_hashing {isRow : Descriptor → Bool} {act : Descriptor → State → State}
    (own : ∀ d (x : State), (act d x).hashing = x.hashing) : (s.take isRow act).hashing = s.hashing := by
  rcases State.take_cases (s := s) isRow act with e | ⟨-, -, e⟩
  · rw [e]
  · rw [e, own]; rfl

theorem checked_hashing {check : Descriptor → Bool} {refused : Descriptor → State → Results}
    {act : Descriptor → State → State} (own : ∀ d (x : State), (act d x).hashing = x.hashing) :
    (checked check refused act d s).hashing = s.hashing := by
  rcases checked_cases (s := s) check refused act d with ⟨-, e⟩ | ⟨-, e⟩
  · rw [e, own]
  · rw [e]; rfl

/-- The take of a command that is checked first. -/
theorem State.take_checked_hashing {isRow check : Descriptor → Bool} {refused : Descriptor → State → Results}
    {act : Descriptor → State → State} (own : ∀ d (x : State), (act d x).hashing = x.hashing) :
    (s.take isRow (checked check refused act)).hashing = s.hashing :=
  s.take_hashing fun d x => checked_hashing x d own

@[simp] theorem State.takeForTable_hashing (kind : Byte) (check : Descriptor → Bool)
    (refused : Descriptor → State → Results) : (s.takeForTable kind check refused).hashing = s.hashing :=
  s.take_checked_hashing fun _ _ => rfl

theorem openChannel_hashing : (openChannel d s).hashing = s.hashing := by
  unfold openChannel
  dsimp only
  split <;> rfl

theorem closeChannel_hashing : (closeChannel d s).hashing = s.hashing := by
  unfold closeChannel
  dsimp only
  split
  · split <;> rfl
  all_goals rfl

theorem resetChannel_hashing : (resetChannel d s).hashing = s.hashing := by simp [resetChannel]

theorem setTimeAct_hashing : (setTimeAct d s).hashing = s.hashing := by
  unfold setTimeAct
  split <;> rfl

theorem sweepAccept_hashing : (sweepAccept d s).hashing = s.hashing := by
  unfold sweepAccept
  split
  · exact State.presentPosition_hashing _
  all_goals rfl

theorem sweepSuspendAct_hashing : (sweepSuspendAct d s).hashing = s.hashing := by
  unfold sweepSuspendAct
  split <;> rfl

theorem sweepResumeAct_hashing : (sweepResumeAct d s).hashing = s.hashing := by
  unfold sweepResumeAct
  split <;> simp

theorem sweepAbortAct_hashing : (sweepAbortAct d s).hashing = s.hashing := by
  unfold sweepAbortAct
  split
  · rfl
  · rfl
  all_goals simp

end Takes

/-! ### Window writes and the ends of operations -/

section Ends

@[simp] theorem State.writeCmdProducer_hashing (s : State) (v : Word) : (s.writeCmdProducer v).hashing = s.hashing := by
  unfold State.writeCmdProducer
  dsimp only
  split <;> rfl

@[simp] theorem State.writeCplConsumer_hashing (s : State) (v : Word) : (s.writeCplConsumer v).hashing = s.hashing := by
  unfold State.writeCplConsumer
  split <;> rfl

@[simp] theorem State.writeControl_hashing (s : State) (v : Word) : (s.writeControl v).hashing = s.hashing := by
  unfold State.writeControl
  dsimp only
  split <;> rfl

theorem State.writeWord_hashing (s : State) (o : BitVec 12) (v : Word) : (s.writeWord o v).hashing = s.hashing := by
  unfold State.writeWord
  dsimp only
  split_ifs
  · simp
  · rfl
  · rfl
  · simp
  · simp
  · rfl
  · rfl

theorem execChannelOperationEnd_hashing (e : execChannelOperationEnd s = .next t) : t.hashing = s.hashing := by
  unfold execChannelOperationEnd at e
  split at e
  · split at e <;> cases e <;> simp
  · cases e; rfl

theorem execCommandOperationEnd_hashing (e : execCommandOperationEnd s = .next t) : t.hashing = s.hashing := by
  unfold execCommandOperationEnd at e
  split at e
  · split at e
    · cases e; rfl
    · split at e <;> cases e <;> rfl
  · cases e; rfl

theorem execSweepPositionEnd_hashing (e : execSweepPositionEnd s = .next t) : t.hashing = s.hashing := by
  unfold execSweepPositionEnd at e
  split at e
  · split at e
    · cases e; split <;> simp
    · cases e; exact State.afterPosition_hashing _
  · cases e; rfl

end Ends

/-! ### Grants -/

section Grants
variable (d : Descriptor)

/-- A command on a reference leaves the seed and the domain table to its own act. -/
theorem onReference_hashing {admits : RecState → Bool} {act : Descriptor → State → State × Status × Results}
    (own : (act d s).1.hashing = s.hashing) : (onReference admits act d s).1.hashing = s.hashing := by
  rcases onReference_cases (s := s) admits act d with e | ⟨e, -⟩ | ⟨e, -⟩
  · rw [e]
  · rw [e]; rfl
  · rw [e, own]

theorem fetchLearnedOp_hashing : (fetchLearnedOp d s).1.hashing = s.hashing := by
  unfold fetchLearnedOp
  split
  · rfl
  · dsimp only
    split <;> rfl

theorem fetchClosedOp_hashing : (fetchClosedOp d s).1.hashing = s.hashing := by
  unfold fetchClosedOp
  split
  · rfl
  · split <;> rfl

theorem insertOp_hashing : (insertOp d s).1.hashing = s.hashing := by
  unfold insertOp
  dsimp only
  split
  · rfl
  · split
    · rfl
    · split
      · split <;> rfl
      · rfl

theorem findOp_hashing : (findOp d s).1.hashing = s.hashing := by
  unfold findOp
  dsimp only
  split <;> rfl

theorem queryOp_hashing : (queryOp d s).1.hashing = s.hashing := by
  unfold queryOp
  dsimp only
  split_ifs <;> rfl

/-- The grant of a command's operation does to the seed and the domain table nothing, or what the operation does. -/
theorem State.commandOperation_hashing_cases (kind : Byte) (op : Descriptor → State → State × Status × Results) :
    (s.commandOperation kind op).hashing = s.hashing ∨ ∃ d, (s.commandOperation kind op).hashing = (op d s).1.hashing := by
  rcases State.commandOperation_cases (s := s) kind op with e | ⟨d, g⟩
  · left; rw [e]
  · right; exact ⟨d, by rw [State.commandOperation_eq g, State.grant_hashing]; rfl⟩

theorem State.commandOperation_hashing {kind : Byte} {op : Descriptor → State → State × Status × Results}
    (own : ∀ d, (op d s).1.hashing = s.hashing) : (s.commandOperation kind op).hashing = s.hashing := by
  rcases State.commandOperation_hashing_cases (s := s) kind op with e | ⟨d, e⟩
  · exact e
  · rw [e, own]

theorem execLookup_hashing (e : execLookup s = .next t) : t.hashing = s.hashing := by
  unfold execLookup at e
  split at e <;> cases e
  · simp [State.grantRequest]
  · rfl

theorem execPeek_hashing (e : execPeek s = .next t) : t.hashing = s.hashing := by
  unfold execPeek at e
  split at e <;> cases e
  · simp [State.grantRequest]
  · rfl

theorem execHoldRequest_hashing (e : execHoldRequest s = .next t) : t.hashing = s.hashing := by
  unfold execHoldRequest at e
  split at e <;> cases e
  · simp [State.grantRequest]
  · rfl

theorem execExpiry_hashing (e : execExpiry s = .next t) : t.hashing = s.hashing := by
  unfold execExpiry at e
  split at e <;> cases e
  · simp
  · rfl

theorem execHoldEnd_hashing (e : execHoldEnd s = .next t) : t.hashing = s.hashing := by
  unfold execHoldEnd at e
  split at e <;> cases e
  · simp
  · rfl

theorem execSweepPosition_hashing (e : execSweepPosition s = .next t) : t.hashing = s.hashing := by
  unfold execSweepPosition at e
  split at e <;> cases e
  · simp
  · rfl

end Grants

/-! ### Every command -/

/-- The rows that set the seed or the domain table (R22, R46, R141). -/
def Instr.setsHashing : Instr → Bool
  | .powerOnReset | .setSeedOperation | .setDomainOperation => true
  | _ => false

/-- Every other row leaves both as they are. -/
theorem exec_hashing {i : Instr} (q : Instr.setsHashing i = false) (e : exec i s = .next t) : t.hashing = s.hashing := by
  cases i with
  | powerOnReset | setSeedOperation | setDomainOperation => cases q
  | tick | timeLowRead => cases e; rfl
  | initPassEnd | uncorrectableError => cases e; split <;> rfl
  | deadlineDue | holdEndDue | ltOperationEnd => cases e; split <;> simp
  | lookupFrameArrival | peekFrameArrival | holdFrameArrival | badFrameArrival => cases e; simp
  | lookup => exact execLookup_hashing e
  | peek => exact execPeek_hashing e
  | holdRequest => exact execHoldRequest_hashing e
  | expiry => exact execExpiry_hashing e
  | holdEnd => exact execHoldEnd_hashing e
  | sweepPosition => exact execSweepPosition_hashing e
  | channelOperationEnd => exact execChannelOperationEnd_hashing e
  | commandOperationEnd => exact execCommandOperationEnd_hashing e
  | sweepPositionEnd => exact execSweepPositionEnd_hashing e
  | setSeed | setDomain | hold | fetchLearned | confirm | reject | retire | fetchClosed | insert | find | query | modify
  | collect => cases e; simp
  | queryDomain | setProfile | queryProfile | setTick => cases e; exact s.take_checked_hashing fun _ _ => rfl
  | setTime => cases e; exact s.take_checked_hashing fun d x => setTimeAct_hashing x d
  | channelControlOpen => cases e; exact s.take_checked_hashing fun d x => openChannel_hashing x d
  | channelControlClose => cases e; exact s.take_checked_hashing fun d x => closeChannel_hashing x d
  | channelControlReset => cases e; exact s.take_checked_hashing fun d x => resetChannel_hashing x d
  | sweep => cases e; exact s.take_checked_hashing fun d x => sweepAccept_hashing x d
  | sweepSuspend => cases e; exact s.take_hashing fun d x => sweepSuspendAct_hashing x d
  | sweepResume => cases e; exact s.take_hashing fun d x => sweepResumeAct_hashing x d
  | sweepAbort => cases e; exact s.take_hashing fun d x => sweepAbortAct_hashing x d
  | unknownCommand => cases e; exact s.take_hashing fun _ _ => rfl
  | cmdProducerWrite | cplConsumerWrite | runEnableWrite | portReset => cases e; simp
  | causeWrite | causeEnableWrite => cases e; rfl
  | windowWrite => cases e; exact s.writeWord_hashing _ _
  | fetchLearnedOperation => cases e; exact State.commandOperation_hashing fetchLearnedOp_hashing
  | fetchClosedOperation => cases e; exact State.commandOperation_hashing fetchClosedOp_hashing
  | insertOperation => cases e; exact State.commandOperation_hashing insertOp_hashing
  | findOperation => cases e; exact State.commandOperation_hashing findOp_hashing
  | queryOperation => cases e; exact State.commandOperation_hashing queryOp_hashing
  | holdCommandOperation | confirmOperation | rejectOperation | retireOperation | modifyOperation | collectOperation =>
    cases e; exact State.commandOperation_hashing fun d => onReference_hashing d rfl

end Sys2Proof.Machine
end

section
/-! PROOF. The bucket law and the key law (R18, R24). A step makes a record matchable only when it creates one, and it
creates one only where a search for its domain and key has missed: in a slot that such a search examines, and nothing else
of that domain and key is matchable. The seed and the masks change only where no record depends on them (R22, R46). -/

namespace Sys2Proof.Machine

variable {s t : State} {a b c : FlowTable} {h k : Nat} {seed : BitVec 11} {d : Fin 16} {key : Key}

/-! ### Matchable records -/

/-- No slot holds a matchable record that did not hold one before. -/
def FlowTable.RevivesNone (t u : FlowTable) : Prop := ∀ k, (u.dir k).matchable = true → (t.dir k).matchable = true

/-- A record lies where a search for its domain and key looks, and no other matchable record has both (R18, R24). -/
structure FlowTable.Unrivalled (t : FlowTable) (seed : BitVec 11) (h : Nat) : Prop where
  candidate : h ∈ candidates (bucket seed (t.dir h).domain (t.body h).key)
  alone : ∀ k, (t.dir k).matchable = true → (t.dir k).domain = (t.dir h).domain → (t.body k).key = (t.body h).key → k = h

/-- Every matchable record was matchable before, or has come in unrivalled. -/
def FlowTable.Admits (seed : BitVec 11) (t u : FlowTable) : Prop :=
  ∀ h, (u.dir h).matchable = true → (t.dir h).matchable = true ∨ u.Unrivalled seed h

/-- No matchable record has a domain and key. -/
def FlowTable.Lacks (t : FlowTable) (d : Fin 16) (key : Key) : Prop :=
  ∀ k, (t.dir k).matchable = true → (t.dir k).domain = d → (t.body k).key ≠ key

theorem FlowTable.RevivesNone.refl (t : FlowTable) : t.RevivesNone t := fun _ m => m

theorem FlowTable.RevivesNone.trans (x : a.RevivesNone b) (y : b.RevivesNone c) : a.RevivesNone c := fun k m => x k (y k m)

theorem FlowTable.RevivesNone.admits (x : a.RevivesNone b) : a.Admits seed b := fun h m => .inl (x h m)

theorem FlowTable.Admits.of_eq (e : b = a) : a.Admits seed b := by
  subst e; exact (FlowTable.RevivesNone.refl b).admits

theorem FlowTable.RevivesNone.of_dir (e : ∀ k, b.dir k = a.dir k) : a.RevivesNone b := fun k m => e k ▸ m

/-- A write of one directory entry revives none when what it writes is matchable only in the place of a matchable record. -/
theorem FlowTable.RevivesNone.of_write {e : DirEntry} (w : ∀ k, b.dir k = if k = h then e else a.dir k)
    (m : e.matchable = true → (a.dir h).matchable = true) : a.RevivesNone b := by
  intro k
  rw [w]
  split
  next q => rw [q]; exact m
  next => exact id

theorem DirEntry.not_free_of_matchable {e : DirEntry} (m : e.matchable = true) : e.state ≠ .free := by
  simp only [DirEntry.matchable, Bool.and_eq_true, decide_eq_true_eq] at m
  exact m.1

theorem DirEntry.matchable_of_state {e : DirEntry} (f : e.state ≠ .free) (c : e.state ≠ .closing) : e.matchable = true := by
  simp [DirEntry.matchable, DirEntry.damaged, f, c]

/-- What a record keeps while it is matchable: its domain and its key (R4, R9). -/
theorem FlowTable.LifeStep.domain_and_key (x : a.LifeStep b k) (m : (a.dir k).matchable = true)
    (m' : (b.dir k).matchable = true) : (b.dir k).domain = (a.dir k).domain ∧ (b.body k).key = (a.body k).key := by
  obtain ⟨-, -, kept⟩ := x.generation_law
  obtain ⟨domain, key, -⟩ := kept (DirEntry.not_free_of_matchable m) (DirEntry.not_free_of_matchable m')
  exact ⟨domain, key⟩

/-! ### The two laws -/

theorem FlowTable.BucketLaw.of_admits (law : a.BucketLaw seed) (life : ∀ k, a.LifeStep b k) (admits : a.Admits seed b) :
    b.BucketLaw seed := by
  intro h way m
  rcases admits h m with m' | new
  · obtain ⟨domain, key⟩ := (life h).domain_and_key m' m
    rw [domain, key]
    exact law h way m'
  · rcases mem_candidates.mp new.candidate with e | ⟨spill, -⟩
    · exact e.symm
    · omega

theorem FlowTable.KeyLaw.of_admits (law : a.KeyLaw) (life : ∀ k, a.LifeStep b k) (admits : a.Admits seed b) : b.KeyLaw := by
  intro h h' m m' sameDomain sameKey
  rcases admits h m with old | new
  · rcases admits h' m' with old' | new
    · obtain ⟨domain, key⟩ := (life h).domain_and_key old m
      obtain ⟨domain', key'⟩ := (life h').domain_and_key old' m'
      exact law h h' old old' (domain ▸ domain' ▸ sameDomain) (key ▸ key' ▸ sameKey)
    · exact new.alone h m sameDomain sameKey
  · exact (new.alone h' m' sameDomain.symm sameKey.symm).symm

/-- A table of FREE slots meets the bucket law under any seed (R22). -/
theorem FlowTable.bucketLaw_of_free (free : ∀ h, (a.dir h).state = .free) : a.BucketLaw seed :=
  fun h _ m => absurd (free h) (DirEntry.not_free_of_matchable m)

theorem FlowTable.keyLaw_of_free (free : ∀ h, (a.dir h).state = .free) : a.KeyLaw :=
  fun h _ m => absurd (free h) (DirEntry.not_free_of_matchable m)

/-! ### The shared operations -/

theorem FlowTable.damage_revivesNone : a.RevivesNone (a.damage h) :=
  .of_write (a.dir_damage h) (by simp [DirEntry.matchable, DirEntry.damaged])

theorem FlowTable.free_revivesNone : a.RevivesNone (a.free h) :=
  .of_write (a.dir_free h) (by simp [DirEntry.matchable])

theorem FlowTable.close_revivesNone (r : CloseReason) (auto : Bool) (m : (a.dir h).matchable = true) :
    a.RevivesNone (a.close h r auto) := by
  cases auto with
  | true => exact free_revivesNone
  | false => exact .of_write (fun k => a.dir_close h k r) fun _ => m

theorem FlowTable.release_revivesNone (now : Nat) (m : (a.dir h).matchable = true) : a.RevivesNone (a.release h now) :=
  .of_write (fun k => a.dir_release h k now) fun _ => m

theorem FlowTable.holdRule_revivesNone (now ticks : Nat) (m : (a.dir h).matchable = true) :
    a.RevivesNone (a.holdRule h now ticks) := by
  by_cases p : ticks > 0
  · exact .of_write (fun k => a.dir_holdRule h k now ticks p) fun _ => m
  · obtain rfl : ticks = 0 := by omega
    by_cases e : (a.dir h).state = .held
    · rw [a.holdRule_zero_held h now e]; exact release_revivesNone now m
    · rw [a.holdRule_zero_other h now e]; exact .refl a

/-! ### Search and creation (R13, R23) -/

/-- A slot that is matchable after a search is as it was: a search writes damage only. -/
theorem FlowTable.searchIn_kept {hs : List Nat} (m : ((a.searchIn d key hs).1.dir k).matchable = true) :
    (a.searchIn d key hs).1.dir k = a.dir k ∧ (a.searchIn d key hs).1.body k = a.body k := by
  rcases a.searchIn_slot d key k hs with e | ⟨-, -, -, -, e⟩
  · exact ⟨congrArg Slot.dir e, congrArg Slot.body e⟩
  · rw [show (a.searchIn d key hs).1.dir k = (a.damage k).dir k from congrArg Slot.dir e, FlowTable.dir_damage] at m
    simp [DirEntry.matchable, DirEntry.damaged] at m

theorem FlowTable.searchIn_revivesNone (hs : List Nat) : a.RevivesNone (a.searchIn d key hs).1 :=
  fun _ m => (searchIn_kept m).1 ▸ m

theorem FlowTable.search_revivesNone : a.RevivesNone (a.search seed d key).1 := searchIn_revivesNone _

/-- What a search does at its first slot: it ends there, or goes on past a slot that is no match or one that it damages. -/
theorem FlowTable.searchIn_cons_cases (a : FlowTable) (d : Fin 16) (key : Key) (x : Nat) (hs : List Nat) :
    a.searchIn d key (x :: hs) = (a, some x)
    ∨ a.searchIn d key (x :: hs) = a.searchIn d key hs
        ∧ ((a.dir x).matchable = true → (a.dir x).domain = d → (a.body x).key ≠ key)
    ∨ a.searchIn d key (x :: hs) = (a.damage x).searchIn d key hs := by
  rw [FlowTable.searchIn]
  split
  next skip => exact .inr (.inl ⟨rfl, fun m e => by simp [m, e] at skip⟩)
  next =>
    split
    next => exact .inr (.inr rfl)
    next =>
      split
      next => exact .inl rfl
      next other => exact .inr (.inl ⟨rfl, fun _ _ => other⟩)

/-- A search that misses leaves no matchable record of its domain and key among the slots it has examined (R23, R35). -/
theorem FlowTable.searchIn_missed {hs : List Nat} (miss : (a.searchIn d key hs).2 = none) (examined : k ∈ hs)
    (m : ((a.searchIn d key hs).1.dir k).matchable = true) (domain : ((a.searchIn d key hs).1.dir k).domain = d) :
    ((a.searchIn d key hs).1.body k).key ≠ key := by
  induction hs generalizing a with
  | nil => cases examined
  | cons x hs ih =>
    rcases a.searchIn_cons_cases d key x hs with e | ⟨e, differs⟩ | e
    · rw [e] at miss; cases miss
    · rw [e] at miss m domain ⊢
      rcases List.mem_cons.mp examined with rfl | later
      · obtain ⟨dir, body⟩ := searchIn_kept m
        rw [dir] at m domain
        rw [body]
        exact differs m domain
      · exact ih miss later m domain
    · rw [e] at miss m domain ⊢
      rcases List.mem_cons.mp examined with rfl | later
      · have damaged := searchIn_revivesNone hs k m
        simp [FlowTable.dir_damage, DirEntry.matchable, DirEntry.damaged] at damaged
      · exact ih miss later m domain

/-- A record stands in a slot of the part (section 1.1). -/
theorem FlowTable.Inv.lt_slots_of_matchable (i : a.Inv) (m : (a.dir k).matchable = true) : k < Config.slots := by
  obtain ⟨-, inTable, -⟩ := i
  have listed : a.slot k ≠ Slot.powerOn := by
    intro e
    rw [show a.dir k = Slot.powerOn.dir from congrArg Slot.dir e] at m
    cases m
  exact inTable _ (mem_of_cellGet_ne _ _ _ listed)

/-- The bucket law makes a search complete: one that misses shows that nothing matchable has its domain and key (R18, R24). -/
theorem FlowTable.search_lacks (i : a.Inv) (law : a.BucketLaw seed) (miss : (a.search seed d key).2 = none) :
    (a.search seed d key).1.Lacks d key := by
  intro k m domain same
  obtain ⟨dir, body⟩ : (a.search seed d key).1.dir k = a.dir k ∧ (a.search seed d key).1.body k = a.body k :=
    searchIn_kept m
  have before := search_revivesNone k m
  have examined : k ∈ candidates (bucket seed d key) := by
    refine mem_candidates.mpr ?_
    by_cases way : k < Config.spillBase
    · left; rw [← law k way before, ← dir, ← body, domain, same]
    · right; exact ⟨by omega, i.lt_slots_of_matchable before⟩
  exact searchIn_missed miss examined m domain same

/-- A record created for a domain and key that nothing has, in a slot of its search, is unrivalled. -/
theorem FlowTable.create_admits (x : RecState) {y : Body} (found : a.RevivesNone b) (lacks : b.Lacks d y.key)
    (slot : h ∈ candidates (bucket seed d y.key)) : a.Admits seed (b.create h x d y) := by
  intro k m
  by_cases q : k = h
  · subst q
    refine .inr ⟨by simpa [dir_create, body_create] using slot, fun j mj domain key => ?_⟩
    by_contra other
    simp only [dir_create, body_create, if_neg other, if_true] at mj domain key
    exact lacks j mj domain key
  · simp only [dir_create, if_neg q] at m
    exact .inl (found k m)

/-! ### The requests of the channels at the table (chapter 5) -/

theorem FlowTable.dir_hit (ps : Vector Profile 64) (h now length : Nat) (k : Nat) :
    (a.hit ps h now length).1.dir k = a.dir k := by
  unfold FlowTable.hit
  split <;> simp [FlowTable.hitActive]

theorem FlowTable.learn_admits (dom : DomainEntry) (ps : Vector Profile 64) (ch : Fin 4) (now length : Nat)
    (found : a.RevivesNone b) (lacks : b.Lacks d key) (slot : h ∈ candidates (bucket seed d key)) :
    a.Admits seed (b.learn dom ps ch d key h now length).1 := by
  unfold FlowTable.learn
  split
  · have sameKey : ((learnedAuto dom ps ch key now).metered ps now length).1.key = key :=
      congrArg Prod.fst (Body.identity_metered (learnedAuto dom ps ch key now) ps now length)
    rw [← sameKey] at lacks slot
    exact create_admits _ found lacks slot
  all_goals exact create_admits _ found lacks slot

theorem FlowTable.missed_admits (dom : DomainEntry) (ps : Vector Profile 64) (ch : Fin 4) (flag : Bool) (now length : Nat)
    (found : a.RevivesNone b) (lacks : b.Lacks d key) :
    a.Admits seed (b.missed dom ps ch d key (bucket seed d key) flag now length).1 := by
  unfold FlowTable.missed
  split
  · exact found.admits
  · split
    · split
      next h p => exact learn_admits dom ps ch now length found lacks (b.placement_free _ h p).1
      next => exact found.admits
    · exact found.admits

theorem State.lookupOp_admits (i : s.table.Inv) (law : s.table.BucketLaw s.seed) (ch : Fin 4) (d : Fin 16) (flag : Bool)
    (length : Nat) (key : Key) : s.table.Admits s.seed (s.lookupOp ch d flag length key).1 := by
  have found := s.table.search_revivesNone (seed := s.seed) (d := d) (key := key &&& s.domains[d].mask)
  have lacks := s.table.search_lacks (d := d) (key := key &&& s.domains[d].mask) i law
  unfold State.lookupOp
  dsimp only
  split
  · exact .of_eq rfl
  · split
    next u h e => rw [e] at found; exact (found.trans (.of_dir (u.dir_hit _ _ _ _))).admits
    next u e => rw [e] at found lacks; exact FlowTable.missed_admits _ _ _ _ _ _ found (lacks rfl)

theorem State.peekOp_revivesNone (s : State) (d : Fin 16) (key : Key) : s.table.RevivesNone (s.peekOp d key).1 := by
  have found := s.table.search_revivesNone (seed := s.seed) (d := d) (key := key &&& s.domains[d].mask)
  unfold State.peekOp
  dsimp only
  split
  · exact .refl _
  · split
    next e => rw [e] at found; exact found
    next e => rw [e] at found; exact found

theorem State.holdOp_revivesNone (s : State) (h : Nat) (generation : Byte) (ticks : Nat) :
    s.table.RevivesNone (s.holdOp h generation ticks).1 := by
  unfold State.holdOp
  dsimp only
  split
  · exact .refl _
  · split
    · exact .refl _
    next admitted =>
      split
      · exact FlowTable.damage_revivesNone
      · refine FlowTable.holdRule_revivesNone _ _ (DirEntry.matchable_of_state ?_ ?_)
        · rintro e; simp [e] at admitted
        · rintro e; simp [e] at admitted

/-! ### The operations of the lease timer (R108, R117) -/

theorem State.expiryOp_revivesNone (s : State) (h : Nat) : s.table.RevivesNone (s.expiryOp h) := by
  unfold State.expiryOp
  dsimp only
  split
  · split
    · exact FlowTable.damage_revivesNone
    · split
      next active =>
        exact FlowTable.close_revivesNone _ _ (DirEntry.matchable_of_state (by simp [active]) (by simp [active]))
      · exact FlowTable.free_revivesNone
      all_goals exact .refl _
  · exact .refl _

theorem State.holdEndOp_revivesNone (s : State) (h : Nat) : s.table.RevivesNone (s.holdEndOp h) := by
  unfold State.holdEndOp
  dsimp only
  split
  next held =>
    split
    · exact FlowTable.damage_revivesNone
    · exact FlowTable.release_revivesNone _ (DirEntry.matchable_of_state (by simp [held.1]) (by simp [held.1]))
  · exact .refl _

/-! ### Sweep positions (R170, R171) -/

/-- A walk selects neither FREE nor CLOSING slots (R168). -/
theorem SweepParams.matchable_of_selects {p : SweepParams} {e : DirEntry} (x : p.selects e = true) : e.matchable = true := by
  simp only [SweepParams.selects, Bool.and_eq_true] at x
  obtain ⟨inSet, -⟩ := x
  refine DirEntry.matchable_of_state ?_ ?_
  all_goals intro q; rw [q] at inSet; cases inSet

theorem sweepAct_revivesNone (act : SweepAction) (ps : Vector Profile 64) (ds : Vector DomainEntry 16) (now : Nat)
    (m : (a.dir h).matchable = true) : a.RevivesNone (sweepAct act ps ds now h a).1 := by
  cases act with
  | count => exact .refl a
  | retire =>
    dsimp only [sweepAct]
    split
    · exact .refl a
    · split
      · exact FlowTable.free_revivesNone
      · exact FlowTable.close_revivesNone _ _ m
  | reclass | reprofile =>
    dsimp only [sweepAct]
    split
    · exact .refl a
    · exact .of_dir fun k => a.dir_modifyBody h k _
  | release =>
    dsimp only [sweepAct]
    split
    · exact .refl a
    · exact FlowTable.release_revivesNone now m

theorem sweepSlot_revivesNone (p : SweepParams) (ps : Vector Profile 64) (ds : Vector DomainEntry 16) (now h : Nat)
    (acc : FlowTable × SweepCounts) : acc.1.RevivesNone (sweepSlot p ps ds now acc h).1 := by
  unfold sweepSlot
  dsimp only
  split
  · exact .refl _
  · split
    · exact .refl _
    next selected =>
      split
      · exact FlowTable.damage_revivesNone
      · split
        · exact .refl _
        · exact sweepAct_revivesNone _ ps ds now (p.matchable_of_selects (by simpa using selected))

theorem sweepSlots_revivesNone (p : SweepParams) (ps : Vector Profile 64) (ds : Vector DomainEntry 16) (now : Nat)
    (hs : List Nat) (acc : FlowTable × SweepCounts) :
    acc.1.RevivesNone (hs.foldl (sweepSlot p ps ds now) acc).1 := by
  induction hs generalizing acc with
  | nil => exact .refl _
  | cons h hs ih => exact (sweepSlot_revivesNone p ps ds now h acc).trans (ih _)

theorem State.positionOp_revivesNone (s : State) : s.table.RevivesNone s.positionOp.1 :=
  sweepSlots_revivesNone _ _ _ _ _ (s.table, ⟨0, 0, 0⟩)

/-! ### The operations of commands (chapters 3, 7 and 9) -/

section Commands
variable (d : Descriptor)

/-- A command on a reference revives no record when it admits no CLOSING record and its own act revives none. -/
theorem onReference_revivesNone {admits : RecState → Bool} {act : Descriptor → State → State × Status × Results}
    (closing : admits .closing = false)
    (own : (s.table.dir (handleOf d)).matchable = true → s.table.RevivesNone (act d s).1.table) :
    s.table.RevivesNone (onReference admits act d s).1.table := by
  rcases onReference_cases (s := s) admits act d with e | ⟨e, -, -⟩ | ⟨e, notFree, admitted, -⟩
  · rw [e]; exact .refl _
  · rw [e]; exact FlowTable.damage_revivesNone
  · rw [e]
    exact own (DirEntry.matchable_of_state notFree fun q => by rw [q, closing] at admitted; cases admitted)

theorem fetchLearnedOp_revivesNone : s.table.RevivesNone (fetchLearnedOp d s).1.table := by
  unfold fetchLearnedOp
  split
  · exact .refl _
  · dsimp only
    split
    · exact FlowTable.damage_revivesNone
    · exact .of_dir fun k => by simp

theorem fetchClosedOp_revivesNone : s.table.RevivesNone (fetchClosedOp d s).1.table := by
  unfold fetchClosedOp
  split
  · exact .refl _
  · split
    all_goals exact FlowTable.free_revivesNone

theorem confirmAct_revivesNone (m : (s.table.dir (handleOf d)).matchable = true) :
    s.table.RevivesNone (confirmAct d s).1.table :=
  .of_write (h := handleOf d) (e := { s.table.dir (handleOf d) with state := .active })
    (fun k => by simp [confirmAct, FlowTable.dir_setDir]) fun _ => m

theorem modifyAct_revivesNone : s.table.RevivesNone (modifyAct d s).1.table := by
  unfold modifyAct
  dsimp only
  split
  all_goals exact .of_dir fun k => by simp

theorem insertOp_admits (i : s.table.Inv) (law : s.table.BucketLaw s.seed) :
    s.table.Admits s.seed (insertOp d s).1.table := by
  have found := s.table.search_revivesNone (seed := s.seed) (d := domainOf d)
    (key := keyArg d &&& s.domains[domainOf d].mask)
  have lacks := s.table.search_lacks (d := domainOf d) (key := keyArg d &&& s.domains[domainOf d].mask) i law
  unfold insertOp
  dsimp only
  split
  · exact .of_eq rfl
  · split
    next e => rw [e] at found; exact found.admits
    next u e =>
      rw [e] at found lacks
      split
      · split
        next h p => exact FlowTable.create_admits _ found (lacks rfl) (u.placement_free _ h p).1
        next => exact found.admits
      · exact found.admits

theorem findOp_revivesNone : s.table.RevivesNone (findOp d s).1.table := by
  have found := s.table.search_revivesNone (seed := s.seed) (d := domainOf d)
    (key := keyArg d &&& s.domains[domainOf d].mask)
  unfold findOp
  dsimp only
  split
  next e => rw [e] at found; exact found
  next e => rw [e] at found; exact found

theorem queryOp_revivesNone : s.table.RevivesNone (queryOp d s).1.table := by
  unfold queryOp
  dsimp only
  split
  · exact .refl _
  · split
    · exact .refl _
    · split
      · exact FlowTable.damage_revivesNone
      · exact .refl _

/-- The grant of a command's operation admits what the operation admits. -/
theorem State.commandOperation_admits {kind : Byte} {op : Descriptor → State → State × Status × Results}
    (own : ∀ d, s.table.Admits s.seed (op d s).1.table) : s.table.Admits s.seed (s.commandOperation kind op).table := by
  rcases State.commandOperation_cases (s := s) kind op with e | ⟨d, g⟩
  · rw [e]; exact .of_eq rfl
  · rw [State.commandOperation_eq g]; exact own d

end Commands

/-! ### Every command -/

theorem execLookup_admits (i : s.table.Inv) (law : s.table.BucketLaw s.seed) (e : execLookup s = .next t) :
    s.table.Admits s.seed t.table := by
  unfold execLookup at e
  split at e <;> cases e
  · exact State.lookupOp_admits i law _ _ _ _ _
  · exact .of_eq rfl

theorem execPeek_revivesNone (e : execPeek s = .next t) : s.table.RevivesNone t.table := by
  unfold execPeek at e
  split at e <;> cases e
  · exact s.peekOp_revivesNone _ _
  · exact .refl _

theorem execHoldRequest_revivesNone (e : execHoldRequest s = .next t) : s.table.RevivesNone t.table := by
  unfold execHoldRequest at e
  split at e <;> cases e
  · exact s.holdOp_revivesNone _ _ _
  · exact .refl _

theorem execExpiry_revivesNone (e : execExpiry s = .next t) : s.table.RevivesNone t.table := by
  unfold execExpiry at e
  split at e <;> cases e
  · exact s.expiryOp_revivesNone _
  · exact .refl _

theorem execHoldEnd_revivesNone (e : execHoldEnd s = .next t) : s.table.RevivesNone t.table := by
  unfold execHoldEnd at e
  split at e <;> cases e
  · exact s.holdEndOp_revivesNone _
  · exact .refl _

theorem execSweepPosition_revivesNone (e : execSweepPosition s = .next t) : s.table.RevivesNone t.table := by
  unfold execSweepPosition at e
  split at e <;> cases e
  · rw [State.grant_table]; exact s.positionOp_revivesNone
  · exact .refl _

theorem execUncorrectableError_revivesNone (e : execUncorrectableError h s = .next t) : s.table.RevivesNone t.table := by
  cases e
  split
  · refine .of_dir fun k => ?_
    simp only [FlowTable.dir, FlowTable.slot_setSlot]
    split <;> simp_all
  · exact .refl _

/-- From a table that meets its law and the bucket law every command but power-on reset and the end of its pass brings in
none but unrivalled records. -/
theorem exec_admits {i : Instr} (inv : s.table.Inv) (law : s.table.BucketLaw s.seed) (reset : i ≠ .powerOnReset)
    (pass : i ≠ .initPassEnd) (e : exec i s = .next t) : s.table.Admits s.seed t.table := by
  by_cases q : Instr.reachesTable i = false
  · exact .of_eq (exec_table_of_not_reachesTable q e)
  cases i with
  | powerOnReset => exact absurd rfl reset
  | initPassEnd => exact absurd rfl pass
  | lookup => exact execLookup_admits inv law e
  | peek => exact (execPeek_revivesNone e).admits
  | holdRequest => exact (execHoldRequest_revivesNone e).admits
  | expiry => exact (execExpiry_revivesNone e).admits
  | holdEnd => exact (execHoldEnd_revivesNone e).admits
  | sweepPosition => exact (execSweepPosition_revivesNone e).admits
  | setSeedOperation => cases e; exact State.commandOperation_admits fun d => .of_eq (setSeedOp_table d)
  | setDomainOperation => cases e; exact State.commandOperation_admits fun d => .of_eq (setDomainOp_table d)
  | holdCommandOperation =>
    cases e
    exact State.commandOperation_admits fun d =>
      (onReference_revivesNone d rfl fun m => FlowTable.holdRule_revivesNone _ _ m).admits
  | fetchLearnedOperation => cases e; exact State.commandOperation_admits fun d => (fetchLearnedOp_revivesNone d).admits
  | confirmOperation =>
    cases e
    exact State.commandOperation_admits fun d => (onReference_revivesNone d rfl (confirmAct_revivesNone d)).admits
  | rejectOperation =>
    cases e
    exact State.commandOperation_admits fun d =>
      (onReference_revivesNone d rfl fun _ => FlowTable.free_revivesNone).admits
  | retireOperation =>
    cases e
    exact State.commandOperation_admits fun d =>
      (onReference_revivesNone d rfl fun m => FlowTable.close_revivesNone _ _ m).admits
  | fetchClosedOperation => cases e; exact State.commandOperation_admits fun d => (fetchClosedOp_revivesNone d).admits
  | insertOperation => cases e; exact State.commandOperation_admits fun d => insertOp_admits d inv law
  | findOperation => cases e; exact State.commandOperation_admits fun d => (findOp_revivesNone d).admits
  | queryOperation => cases e; exact State.commandOperation_admits fun d => (queryOp_revivesNone d).admits
  | modifyOperation =>
    cases e
    exact State.commandOperation_admits fun d =>
      (onReference_revivesNone d rfl fun _ => modifyAct_revivesNone d).admits
  | collectOperation =>
    cases e
    exact State.commandOperation_admits fun d =>
      (onReference_revivesNone d rfl fun _ => .of_dir fun k => FlowTable.dir_modifyBody _ _ k _).admits
  | uncorrectableError => exact (execUncorrectableError_revivesNone e).admits
  | _ => exact absurd rfl q

/-! ### The seed and the masks (R22, R46) -/

theorem FlowTable.state_of_allFree (x : a.allFree = true) (h : Nat) : (a.dir h).state = .free := by
  by_cases e : a.slot h = Slot.powerOn
  · rw [show a.dir h = Slot.powerOn.dir from congrArg Slot.dir e]; rfl
  · exact of_decide_eq_true (List.all_eq_true.mp x _ (mem_of_cellGet_ne _ _ _ e))

theorem FlowTable.state_initial (h : Nat) : (FlowTable.initial.dir h).state = .free := rfl

/-- The end of the initialisation pass changes nothing, or leaves every slot FREE. -/
theorem execInitPassEnd_table (e : execInitPassEnd s = .next t) : t.table = s.table ∨ t.table = FlowTable.initial := by
  cases e
  split
  · exact .inl rfl
  · exact .inr rfl

theorem State.commandOperation_table {kind : Byte} {op : Descriptor → State → State × Status × Results}
    (own : ∀ d, (op d s).1.table = s.table) : (s.commandOperation kind op).table = s.table := by
  rcases State.commandOperation_cases (s := s) kind op with e | ⟨d, g⟩
  · rw [e]
  · rw [State.commandOperation_eq g, State.grant_table, own]

/-- SET_SEED changes the seed only with every slot FREE (R22). -/
theorem setSeedOp_seed (d : Descriptor) : (setSeedOp d s).1.seed = s.seed ∨ ∀ h, (s.table.dir h).state = .free := by
  unfold setSeedOp
  dsimp only
  split
  next free => exact .inr (FlowTable.state_of_allFree free)
  next => exact .inl rfl

theorem setSeedOp_domains (d : Descriptor) : (setSeedOp d s).1.domains = s.domains := by
  unfold setSeedOp
  dsimp only
  split <;> rfl

theorem setDomainOp_seed (d : Descriptor) : (setDomainOp d s).1.seed = s.seed := by
  unfold setDomainOp
  dsimp only
  split_ifs <;> rfl

/-- SET_DOMAIN changes a mask only while the domain holds no record (R46). -/
theorem setDomainOp_mask (d : Descriptor) (n : Fin 16) :
    (setDomainOp d s).1.domains[n].mask = s.domains[n].mask ∨ s.table.count n = 0 := by
  unfold setDomainOp
  dsimp only
  split
  · exact .inl rfl
  next maskTest =>
    split
    · exact .inl rfl
    · by_cases q : n = domainOf d
      · subst q
        by_cases same : (s.domains[domainOf d].withFields d).mask = s.domains[domainOf d].mask
        · left; simpa using same
        · right; by_contra records; exact maskTest ⟨same, Nat.pos_of_ne_zero records⟩
      · left
        have other : (domainOf d).val ≠ n.val := fun e => q (Fin.ext e.symm)
        simp [other]

theorem exec_seed {i : Instr} (e : exec i s = .next t) : t.seed = s.seed ∨ ∀ h, (t.table.dir h).state = .free := by
  by_cases q : Instr.setsHashing i = false
  · exact .inl (State.seed_of_hashing (exec_hashing q e))
  cases i with
  | powerOnReset => cases e; exact .inr FlowTable.state_initial
  | setSeedOperation =>
    cases e
    rw [State.commandOperation_table setSeedOp_table]
    rcases State.commandOperation_hashing_cases (s := s) 1#8 setSeedOp with kept | ⟨d, own⟩
    · exact .inl (State.seed_of_hashing kept)
    · rw [State.seed_of_hashing own]; exact setSeedOp_seed d
  | setDomainOperation =>
    cases e
    rcases State.commandOperation_hashing_cases (s := s) 2#8 setDomainOp with kept | ⟨d, own⟩
    · exact .inl (State.seed_of_hashing kept)
    · rw [State.seed_of_hashing own]; exact .inl (setDomainOp_seed d)
  | _ => exact absurd rfl q

theorem exec_mask {i : Instr} (e : exec i s = .next t) (n : Fin 16) :
    t.domains[n].mask = s.domains[n].mask ∨ t.table.count n = 0 := by
  by_cases q : Instr.setsHashing i = false
  · rw [State.domains_of_hashing (exec_hashing q e)]; exact .inl rfl
  cases i with
  | powerOnReset => cases e; right; simp [FlowTable.count, State.reset, FlowTable.initial]
  | setSeedOperation =>
    cases e
    rcases State.commandOperation_hashing_cases (s := s) 1#8 setSeedOp with kept | ⟨d, own⟩
    · rw [State.domains_of_hashing kept]; exact .inl rfl
    · rw [State.domains_of_hashing own, setSeedOp_domains]; exact .inl rfl
  | setDomainOperation =>
    cases e
    rw [State.commandOperation_table setDomainOp_table]
    rcases State.commandOperation_hashing_cases (s := s) 2#8 setDomainOp with kept | ⟨d, own⟩
    · rw [State.domains_of_hashing kept]; exact .inl rfl
    · rw [State.domains_of_hashing own]; exact setDomainOp_mask d n
  | _ => exact absurd rfl q

/-! ### The obligation -/

/-- Every command keeps both laws under the seed that it found. -/
theorem exec_laws {i : Instr} (inv : s.table.Inv) (bucketLaw : s.table.BucketLaw s.seed) (keyLaw : s.table.KeyLaw)
    (e : exec i s = .next t) : t.table.BucketLaw s.seed ∧ t.table.KeyLaw := by
  have initial : FlowTable.initial.BucketLaw s.seed ∧ FlowTable.initial.KeyLaw :=
    ⟨FlowTable.bucketLaw_of_free FlowTable.state_initial, FlowTable.keyLaw_of_free FlowTable.state_initial⟩
  by_cases reset : i = .powerOnReset
  · subst reset; cases e; exact initial
  by_cases pass : i = .initPassEnd
  · subst pass
    rcases execInitPassEnd_table e with kept | new
    · rw [kept]; exact ⟨bucketLaw, keyLaw⟩
    · rw [new]; exact initial
  have life := fun k => exec_lifeStep k inv reset pass e
  have admits := exec_admits inv bucketLaw reset pass e
  exact ⟨bucketLaw.of_admits life admits, keyLaw.of_admits life admits⟩

/-- Settles O8: a step brings in none but unrivalled records, and the seed changes only with no record in the table. -/
theorem everyStepKeepsBucketAndKeyLaws : Obligations.EveryStepKeepsBucketAndKeyLaws := by
  intro s t inv bucketLaw keyLaw e
  rcases step_cases e with ⟨-, rfl⟩ | ⟨i, rest, -, e⟩
  · exact ⟨bucketLaw, keyLaw, fun n => absurd rfl n, fun _ n => absurd rfl n⟩
  · obtain ⟨underOldSeed, keyLaw'⟩ := exec_laws (s := { s with pending := rest }) inv bucketLaw keyLaw e
    have seed := exec_seed e
    have bucketLaw' : t.table.BucketLaw t.seed := by
      rcases seed with same | free
      · rw [same]; exact underOldSeed
      · exact FlowTable.bucketLaw_of_free free
    exact ⟨bucketLaw', keyLaw', seed.resolve_left, fun d => (exec_mask e d).resolve_left⟩

end Sys2Proof.Machine
end

section
/-! PROOF. The arrival of a frame (R57): the tests in their order, one lemma for each outcome, and the fault reason that an
OPEN or DRAINING channel records at a frame error (R66, R70). -/

namespace Sys2Proof.Machine

variable {s : State} {c : Fin 4} {f : List Byte} {e : FrameError}

/-! ### The tests of a frame (R57) -/

/-- The check that a frame carries, its last two bytes (R56). -/
theorem frameField_check (long : 4 ≤ f.length) :
    frameField f (f.length - 2) 2 = natBE (f.drop (f.length - 2)) := by
  rw [frameField, List.take_of_length_le (by rw [List.length_drop]; omega)]

/-- The kind of a frame, its first byte (R183). -/
theorem frameField_kind (f : List Byte) : frameField f 0 1 = natBE (f.take 1) := rfl

/-- The fixed size of a request's kind: LOOKUP, PEEK or HOLD (R57, R183). -/
def requestSize (kind : Nat) : Nat := if kind = 1 then 24 else if kind = 2 then 21 else 9

/-- A frame that passes the first two tests: not shorter than 4 bytes, and its check holds. -/
structure FrameChecked (f : List Byte) : Prop where
  long : 4 ≤ f.length
  check : (crc (f.take (f.length - 2))).toNat = natBE (f.drop (f.length - 2))

/-- The first test: a frame too short for a kind, a tag and a check. -/
theorem classifyFrame_short (short : f.length < 4) : classifyFrame f = .error .badSize := if_pos short

/-- The second test: the check. -/
theorem classifyFrame_badCheck (long : 4 ≤ f.length)
    (differs : (crc (f.take (f.length - 2))).toNat ≠ natBE (f.drop (f.length - 2))) :
    classifyFrame f = .error .badCheck := by
  unfold classifyFrame
  rw [if_neg (Nat.not_lt.mpr long), frameField_check long, if_pos differs]

/-- The first two tests, as the model makes them, find no error in a checked frame. -/
theorem FrameChecked.passes (checked : FrameChecked f) :
    ¬ f.length < 4 ∧ ¬ (crc (f.take (f.length - 2))).toNat ≠ frameField f (f.length - 2) 2 :=
  ⟨Nat.not_lt.mpr checked.long, not_not.mpr (checked.check.trans (frameField_check checked.long).symm)⟩

/-- The third test: a kind that no request has. -/
theorem classifyFrame_unknownKind (checked : FrameChecked f) (other : natBE (f.take 1) = 0 ∨ 3 < natBE (f.take 1)) :
    classifyFrame f = .error .unknownKind := by
  obtain ⟨long, check⟩ := checked.passes
  rw [← frameField_kind] at other
  obtain ⟨lookup, peek, hold⟩ : frameField f 0 1 ≠ 1 ∧ frameField f 0 1 ≠ 2 ∧ frameField f 0 1 ≠ 3 := by omega
  simp only [classifyFrame, if_neg long, if_neg check, if_neg lookup, if_neg peek, if_neg hold]

/-- The fourth test, for a request's kind: a frame of the kind's size is its request, and any other has a size error. -/
theorem classifyFrame_request (checked : FrameChecked f) (low : 1 ≤ natBE (f.take 1)) (high : natBE (f.take 1) ≤ 3) :
    ∃ tag r, classifyFrame f =
      if f.length = requestSize (natBE (f.take 1)) then .ok (tag, r) else .error .badSize := by
  obtain ⟨long, check⟩ := checked.passes
  rw [← frameField_kind] at low high ⊢
  simp only [classifyFrame, if_neg long, if_neg check]
  obtain lookup | peek | hold : frameField f 0 1 = 1 ∨ frameField f 0 1 = 2 ∨ frameField f 0 1 = 3 := by omega
  · rw [lookup]; exact ⟨_, _, rfl⟩
  · rw [peek]; exact ⟨_, _, rfl⟩
  · rw [hold]; exact ⟨_, _, rfl⟩

/-! ### The fault reason of a frame error (R66, R70) -/

/-- The end of a pending CLOSE changes no field of the channel but the pending CLOSE. -/
theorem State.endClose_chan_same (s : State) (c : Fin 4) (st : Status) :
    (s.endClose c st).chan c = { s.chan c with closePending := none } := by
  rcases pending : (s.chan c).closePending with _ | tag
  · rw [State.endClose_none pending, ← pending]
  · rw [State.endClose_some pending, State.post_chan, State.setChan_chan_same]

/-- A channel that has entered FAULT (R70). -/
theorem State.faultChannel_chan_same (s : State) (c : Fin 4) (why : FaultReason) :
    (s.faultChannel c why).chan c = { (s.chan c).discard with
      state := .fault, faultReason := why, closePending := none, lane := (s.chan c).lane ++ [.closeNotice .fault] } := by
  simp only [State.faultChannel, State.endClose_chan_same, State.latch_chan, State.abandon_chan,
    State.setChan_chan_same]
  rfl

theorem Channel.serving_iff {ch : Channel} : ch.serving = true ↔ ch.state = .opened ∨ ch.state = .draining := by
  simp [Channel.serving]

/-- A frame error faults a channel in service. -/
theorem State.frameArrives_error (serving : (s.chan c).serving = true) (error : classifyFrame f = .error e) :
    s.frameArrives c f = s.faultChannel c (FrameError.reason e) := by
  simp [State.frameArrives, error, serving]

theorem exec_badFrameArrival (c : Fin 4) (f : List Byte) (s : State) :
    exec (.badFrameArrival c f) s = .next (s.frameArrives c f) := by
  rfl

/-! ### The obligation -/

/-- Settles O41: one lemma for each test, and the reason that the entry to FAULT records. -/
theorem frameTestsRunInOrder : Obligations.FrameTestsRunInOrder := by
  refine ⟨fun f => ⟨classifyFrame_short, classifyFrame_badCheck, ?unknownKind, ?otherSize, ?wellFormed⟩, ?recorded⟩
  case unknownKind => exact fun long check => classifyFrame_unknownKind ⟨long, check⟩
  case otherSize =>
    intro long check low high other
    obtain ⟨tag, r, request⟩ := classifyFrame_request ⟨long, check⟩ low high
    exact request.trans (if_neg other)
  case wellFormed =>
    intro long check low high same
    obtain ⟨tag, r, request⟩ := classifyFrame_request ⟨long, check⟩ low high
    exact ⟨tag, r, request.trans (if_pos same)⟩
  case recorded =>
    intro s c f e service error
    refine ⟨_, exec_badFrameArrival c f s, ?_⟩
    rw [State.frameArrives_error (Channel.serving_iff.mpr service) error, State.faultChannel_chan_same]
    cases e with
    | badCheck | unknownKind | badSize => rfl

end Sys2Proof.Machine
end

section
/-! PROOF. The reads of the time base (R102): what a TIME_LOW read returns and latches, what TIME_HIGH then reads, and that
no row but a TIME_LOW read and power-on reset changes the snapshot latch. -/

namespace Sys2Proof.Machine

variable {s t : State}

/-! ### The two words (R102) -/

theorem State.readWord_timeLow (s : State) : s.readWord 0x024#12 = BitVec.ofNat 32 s.timer.timeBase := by
  rfl

theorem State.readWord_timeHigh (s : State) : s.readWord 0x028#12 = s.port.snapshot.setWidth 32 := by
  rfl

theorem State.readWord_timeLow_toNat (s : State) : (s.readWord 0x024#12).toNat = s.timer.timeBase % 2 ^ 32 := by
  rw [State.readWord_timeLow, BitVec.toNat_ofNat]

theorem State.readWord_timeHigh_toNat (s : State) : (s.readWord 0x028#12).toNat = s.port.snapshot.toNat := by
  rw [State.readWord_timeHigh]
  exact BitVec.toNat_setWidth_of_le (by decide)

/-- TIME_LOW is a read-only word (R139). -/
theorem State.writeWord_timeLow (s : State) (v : Word) : s.writeWord 0x024#12 v = s := by
  rfl

/-- TIME_HIGH is a read-only word (R139). -/
theorem State.writeWord_timeHigh (s : State) (v : Word) : s.writeWord 0x028#12 v = s := by
  rfl

/-- The state that a TIME_LOW read leaves. -/
def State.timeLowRead (s : State) : State :=
  { s with port := { s.port with
    readData := s.readWord 0x024#12, snapshot := BitVec.ofNat 16 (s.timer.timeBase / 2 ^ 32) } }

theorem exec_timeLowRead (s : State) : exec .timeLowRead s = .next s.timeLowRead := by
  rfl

/-- A time base of 48 bits has a high part of 16 bits, so the latch holds all of it. -/
theorem State.timeLowRead_snapshot_toNat (inRange : s.timer.timeBase ≤ 281474976710655) :
    s.timeLowRead.port.snapshot.toNat = s.timer.timeBase / 2 ^ 32 := by
  have fits : s.timer.timeBase / 2 ^ 32 < 2 ^ 16 := by omega
  exact (BitVec.toNat_ofNat ..).trans (Nat.mod_eq_of_lt fits)

/-- The two words together are the time base of the TIME_LOW read. -/
theorem State.timeLow_add_timeHigh (inRange : s.timer.timeBase ≤ 281474976710655) :
    (s.readWord 0x024#12).toNat + 2 ^ 32 * (s.timeLowRead.readWord 0x028#12).toNat = s.timer.timeBase := by
  rw [s.readWord_timeLow_toNat, s.timeLowRead.readWord_timeHigh_toNat, State.timeLowRead_snapshot_toNat inRange]
  exact Nat.mod_add_div _ _

/-! ### The latch under the named updates -/

section Updates
variable (s) (c : Fin 4) (d : Descriptor) (st : Status)

@[simp] theorem State.completeControl_port_snapshot : (s.completeControl d st).port.snapshot = s.port.snapshot := rfl

@[simp] theorem State.completeSweep_port_snapshot : (s.completeSweep d st).port.snapshot = s.port.snapshot := rfl

@[simp] theorem State.endClose_port_snapshot : (s.endClose c st).port.snapshot = s.port.snapshot := by
  unfold State.endClose
  split <;> rfl

@[simp] theorem State.endSweep_port_snapshot : (s.endSweep st).port.snapshot = s.port.snapshot := by
  unfold State.endSweep
  split <;> rfl

@[simp] theorem State.endSuspend_port_snapshot : (s.endSuspend st).port.snapshot = s.port.snapshot := by
  unfold State.endSuspend
  split <;> rfl

@[simp] theorem State.endAbort_port_snapshot : s.endAbort.port.snapshot = s.port.snapshot := by
  unfold State.endAbort
  split <;> rfl

@[simp] theorem State.afterPosition_port_snapshot : s.afterPosition.port.snapshot = s.port.snapshot := by
  unfold State.afterPosition
  split
  · split <;> simp
  · split <;> simp
  · simp
  all_goals rfl

@[simp] theorem State.serve_port_snapshot : (s.serve c).port.snapshot = s.port.snapshot := by
  unfold State.serve
  dsimp only
  split
  · split
    · rfl
    · split <;> simp [State.endDrain]
  · rfl

@[simp] theorem State.faultChannel_port_snapshot (r : FaultReason) :
    (s.faultChannel c r).port.snapshot = s.port.snapshot := by
  simp [State.faultChannel]

@[simp] theorem State.requestArrives_port_snapshot (tag : Byte) (body : RequestBody) :
    (s.requestArrives c tag body).port.snapshot = s.port.snapshot := by
  unfold State.requestArrives
  dsimp only
  split
  · rfl
  · rfl
  · split <;> simp
  · split
    · split <;> rfl
    · simp

@[simp] theorem State.frameArrives_port_snapshot (frame : List Byte) :
    (s.frameArrives c frame).port.snapshot = s.port.snapshot := by
  unfold State.frameArrives
  split
  · split <;> simp
  · simp

end Updates

/-! ### The latch at a take -/

section Takes
variable (s) (d : Descriptor)

/-- A take leaves the latch to what the taken command does. -/
theorem State.take_port_snapshot {isRow : Descriptor → Bool} {act : Descriptor → State → State}
    (own : ∀ d (x : State), (act d x).port.snapshot = x.port.snapshot) :
    (s.take isRow act).port.snapshot = s.port.snapshot := by
  rcases State.take_cases (s := s) isRow act with e | ⟨-, -, e⟩
  · rw [e]
  · rw [e, own, State.taken_port_snapshot]

/-- So does the take of a command that is checked first: a refusal only posts a completion. -/
theorem State.take_checked_port_snapshot {isRow check : Descriptor → Bool} {refused : Descriptor → State → Results}
    {act : Descriptor → State → State} (own : ∀ d (x : State), (act d x).port.snapshot = x.port.snapshot) :
    (s.take isRow (checked check refused act)).port.snapshot = s.port.snapshot := by
  refine s.take_port_snapshot fun d x => ?_
  rcases checked_cases (s := x) check refused act d with ⟨-, e⟩ | ⟨-, e⟩
  · rw [e, own]
  · rw [e, State.complete_port, State.post_port_snapshot]

@[simp] theorem State.takeForTable_port_snapshot (kind : Byte) (check : Descriptor → Bool)
    (refused : Descriptor → State → Results) : (s.takeForTable kind check refused).port.snapshot = s.port.snapshot :=
  s.take_checked_port_snapshot fun _ _ => rfl

theorem openChannel_port_snapshot : (openChannel d s).port.snapshot = s.port.snapshot := by
  unfold openChannel
  dsimp only
  split <;> rfl

theorem closeChannel_port_snapshot : (closeChannel d s).port.snapshot = s.port.snapshot := by
  unfold closeChannel
  dsimp only
  split
  · split <;> rfl
  all_goals rfl

theorem resetChannel_port_snapshot : (resetChannel d s).port.snapshot = s.port.snapshot := by
  simp [resetChannel]

theorem setTimeAct_port_snapshot : (setTimeAct d s).port.snapshot = s.port.snapshot := by
  unfold setTimeAct
  split <;> rfl

theorem sweepAccept_port_snapshot : (sweepAccept d s).port.snapshot = s.port.snapshot := by
  unfold sweepAccept
  split <;> simp

theorem sweepSuspendAct_port_snapshot : (sweepSuspendAct d s).port.snapshot = s.port.snapshot := by
  unfold sweepSuspendAct
  split <;> rfl

theorem sweepResumeAct_port_snapshot : (sweepResumeAct d s).port.snapshot = s.port.snapshot := by
  unfold sweepResumeAct
  split <;> simp

theorem sweepAbortAct_port_snapshot : (sweepAbortAct d s).port.snapshot = s.port.snapshot := by
  unfold sweepAbortAct
  split <;> simp

end Takes

/-! ### The latch under window writes and at the ends of operations -/

@[simp] theorem State.writeCmdProducer_port_snapshot (s : State) (v : Word) :
    (s.writeCmdProducer v).port.snapshot = s.port.snapshot := by
  unfold State.writeCmdProducer
  dsimp only
  split <;> rfl

@[simp] theorem State.writeCplConsumer_port_snapshot (s : State) (v : Word) :
    (s.writeCplConsumer v).port.snapshot = s.port.snapshot := by
  unfold State.writeCplConsumer
  split <;> rfl

/-- A port reset keeps the latch (R153). -/
@[simp] theorem State.writeControl_port_snapshot (s : State) (v : Word) :
    (s.writeControl v).port.snapshot = s.port.snapshot := by
  unfold State.writeControl
  dsimp only
  split <;> rfl

theorem State.writeWord_port_snapshot (s : State) (o : BitVec 12) (v : Word) :
    (s.writeWord o v).port.snapshot = s.port.snapshot := by
  unfold State.writeWord
  dsimp only
  split_ifs <;> simp [State.writeCause, State.writeEnables]

theorem execChannelOperationEnd_port_snapshot (e : execChannelOperationEnd s = .next t) :
    t.port.snapshot = s.port.snapshot := by
  unfold execChannelOperationEnd at e
  split at e
  · split at e <;> cases e <;> simp
  · cases e; rfl

theorem execCommandOperationEnd_port_snapshot (e : execCommandOperationEnd s = .next t) :
    t.port.snapshot = s.port.snapshot := by
  unfold execCommandOperationEnd at e
  split at e
  · split at e
    · cases e; rfl
    · split at e <;> cases e <;> rfl
  · cases e; rfl

theorem execSweepPositionEnd_port_snapshot (e : execSweepPositionEnd s = .next t) :
    t.port.snapshot = s.port.snapshot := by
  unfold execSweepPositionEnd at e
  split at e
  · split at e
    · cases e; split <;> simp
    · cases e; simp
  · cases e; rfl

/-! ### A grant leaves the management port alone -/

section Grants
variable (d : Descriptor)

/-- A command on a reference leaves the port to its own act. -/
theorem onReference_port {admits : RecState → Bool} {act : Descriptor → State → State × Status × Results}
    (own : (act d s).1.port = s.port) : (onReference admits act d s).1.port = s.port := by
  rcases onReference_cases (s := s) admits act d with e | ⟨e, -⟩ | ⟨e, -⟩
  · rw [e]
  · rw [e]
  · rw [e, own]

theorem setSeedOp_port : (setSeedOp d s).1.port = s.port := by
  unfold setSeedOp
  dsimp only
  split <;> rfl

theorem setDomainOp_port : (setDomainOp d s).1.port = s.port := by
  unfold setDomainOp
  dsimp only
  split_ifs <;> rfl

theorem fetchLearnedOp_port : (fetchLearnedOp d s).1.port = s.port := by
  unfold fetchLearnedOp
  split
  · rfl
  · dsimp only
    split <;> rfl

theorem fetchClosedOp_port : (fetchClosedOp d s).1.port = s.port := by
  unfold fetchClosedOp
  split
  · rfl
  · split <;> rfl

theorem insertOp_port : (insertOp d s).1.port = s.port := by
  unfold insertOp
  dsimp only
  split
  · rfl
  · split
    · rfl
    · split
      · split <;> rfl
      · rfl

theorem findOp_port : (findOp d s).1.port = s.port := by
  unfold findOp
  dsimp only
  split <;> rfl

theorem queryOp_port : (queryOp d s).1.port = s.port := by
  unfold queryOp
  dsimp only
  split_ifs <;> rfl

/-- The grant of a command's operation leaves the port to the operation. -/
theorem State.commandOperation_port {kind : Byte} {op : Descriptor → State → State × Status × Results}
    (own : ∀ d, (op d s).1.port = s.port) : (s.commandOperation kind op).port = s.port := by
  rcases State.commandOperation_cases (s := s) kind op with e | ⟨d, g⟩
  · rw [e]
  · rw [State.commandOperation_eq g, State.grant_port, own]

end Grants

/-- The rows that are a grant and all it does at the table (R29, R31). -/
def Instr.grants : Instr → Bool
  | .lookup | .peek | .holdRequest | .expiry | .holdEnd | .sweepPosition | .setSeedOperation | .setDomainOperation
  | .holdCommandOperation | .fetchLearnedOperation | .confirmOperation | .rejectOperation | .retireOperation
  | .fetchClosedOperation | .insertOperation | .findOperation | .queryOperation | .modifyOperation | .collectOperation => true
  | _ => false

theorem exec_port_of_grants {i : Instr} (grants : Instr.grants i = true) (e : exec i s = .next t) : t.port = s.port := by
  cases i with
  | lookup | peek | holdRequest | expiry | holdEnd | sweepPosition =>
    dsimp only [exec, execLookup, execPeek, execHoldRequest, execExpiry, execHoldEnd, execSweepPosition] at e
    split at e <;> cases e <;> simp [State.grantRequest]
  | setSeedOperation => cases e; exact State.commandOperation_port setSeedOp_port
  | setDomainOperation => cases e; exact State.commandOperation_port setDomainOp_port
  | fetchLearnedOperation => cases e; exact State.commandOperation_port fetchLearnedOp_port
  | fetchClosedOperation => cases e; exact State.commandOperation_port fetchClosedOp_port
  | insertOperation => cases e; exact State.commandOperation_port insertOp_port
  | findOperation => cases e; exact State.commandOperation_port findOp_port
  | queryOperation => cases e; exact State.commandOperation_port queryOp_port
  | holdCommandOperation | confirmOperation | rejectOperation | retireOperation | modifyOperation | collectOperation =>
    cases e; exact State.commandOperation_port fun d => onReference_port d rfl
  | _ => cases grants

/-! ### Every row -/

/-- Every row but a TIME_LOW read and power-on reset leaves the latch as it is: a grant leaves the whole port, and the other
rows write other fields of it. -/
theorem exec_port_snapshot {i : Instr} (read : i ≠ .timeLowRead) (reset : i ≠ .powerOnReset) (e : exec i s = .next t) :
    t.port.snapshot = s.port.snapshot := by
  by_cases grants : Instr.grants i = true
  · rw [exec_port_of_grants grants e]
  cases i with
  | timeLowRead => exact absurd rfl read
  | powerOnReset => exact absurd rfl reset
  | tick | causeWrite | causeEnableWrite => cases e; rfl
  | initPassEnd | uncorrectableError => cases e; split <;> rfl
  | deadlineDue | holdEndDue | ltOperationEnd => cases e; split <;> simp
  | lookupFrameArrival | peekFrameArrival | holdFrameArrival | badFrameArrival => cases e; simp
  | channelOperationEnd => exact execChannelOperationEnd_port_snapshot e
  | commandOperationEnd => exact execCommandOperationEnd_port_snapshot e
  | sweepPositionEnd => exact execSweepPositionEnd_port_snapshot e
  | setSeed | setDomain | hold | fetchLearned | confirm | reject | retire | fetchClosed | insert | find | query | modify
  | collect => cases e; simp
  | queryDomain | setProfile | queryProfile | setTick => cases e; exact s.take_checked_port_snapshot fun _ _ => rfl
  | setTime => cases e; exact s.take_checked_port_snapshot fun d x => setTimeAct_port_snapshot x d
  | channelControlOpen => cases e; exact s.take_checked_port_snapshot fun d x => openChannel_port_snapshot x d
  | channelControlClose => cases e; exact s.take_checked_port_snapshot fun d x => closeChannel_port_snapshot x d
  | channelControlReset => cases e; exact s.take_checked_port_snapshot fun d x => resetChannel_port_snapshot x d
  | sweep => cases e; exact s.take_checked_port_snapshot fun d x => sweepAccept_port_snapshot x d
  | sweepSuspend => cases e; exact s.take_port_snapshot fun d x => sweepSuspendAct_port_snapshot x d
  | sweepResume => cases e; exact s.take_port_snapshot fun d x => sweepResumeAct_port_snapshot x d
  | sweepAbort => cases e; exact s.take_port_snapshot fun d x => sweepAbortAct_port_snapshot x d
  | unknownCommand => cases e; exact s.take_port_snapshot fun _ _ => rfl
  | cmdProducerWrite | cplConsumerWrite | runEnableWrite | portReset => cases e; simp
  | windowWrite => cases e; exact s.writeWord_port_snapshot _ _
  | _ => exact absurd rfl grants

theorem exec_windowWrite (o : BitVec 12) (v : Word) (s : State) : exec (.windowWrite o v) s = .next (s.writeWord o v) := by
  rfl

/-! ### The obligation -/

/-- Settles O27: the two words of a TIME_LOW read and a TIME_HIGH read, and the frame of the latch over every row. -/
theorem timeLowReadLatchesTheHighPart : Obligations.TimeLowReadLatchesTheHighPart := by
  refine ⟨fun s inRange => ⟨s.timeLowRead, exec_timeLowRead s, ?changed, s.readWord_timeLow_toNat, ?returned,
    State.timeLowRead_snapshot_toNat inRange, s.timeLowRead.readWord_timeHigh_toNat,
    State.timeLow_add_timeHigh inRange⟩, ?kept, ?reset, fun s v => ⟨?timeLow, ?timeHigh⟩⟩
  case changed => rfl
  case returned => rfl
  case kept => exact fun _ _ _ read reset => exec_port_snapshot read reset
  case reset => rfl
  case timeLow => rw [exec_windowWrite, s.writeWord_timeLow]
  case timeHigh => rw [exec_windowWrite, s.writeWord_timeHigh]

end Sys2Proof.Machine
end

section
/-! PROOF. The law of the flow table (R6, R11, R40, R104, R113, R121, R134), in three parts: the store with its counts, the
lists and queues as lists, and what the law says of one handle; and what the shared operations make of each part. -/

namespace Sys2Proof.Machine

variable {t u : FlowTable} {h k : Nat}

/-! ### The three parts of the law -/

/-- Whether a slot holds a record of a domain. -/
def Slot.recordOf (d : Fin 16) (x : Slot) : Bool := x.dir.state ≠ .free ∧ x.dir.domain = d

/-- The store is canonical, lies in the part's slots, and each count is the number of its domain's records (R40). -/
structure FlowTable.StoreLaw (t : FlowTable) : Prop where
  canonical : cellsWf Slot.powerOn t.slots
  inTable : t.InTable
  counts : ∀ d : Fin 16, t.count d = t.slots.countP (fun p => p.2.recordOf d)

/-- No handle stands twice in a list or a queue, and the queues are in order (R104, R113, R121, R134). -/
structure FlowTable.ListLaw (t : FlowTable) : Prop where
  closed : t.closed.Nodup
  learned : t.learned.Nodup
  expiryQ : QueueInv t.expiryQ
  holdQ : QueueInv t.holdQ

/-- The lists, the queues and the optional fields agree with the state of one slot (R6, R11, R104, R113, R121, R134). -/
structure FlowTable.HandleLaw (t : FlowTable) (h : Nat) : Prop where
  reason : (t.dir h).closeReason.isSome ↔ (t.dir h).state = .closing
  closed : h ∈ t.closed ↔ (t.dir h).state = .closing
  learned : h ∈ t.learned ↔ (t.dir h).state = .provisional ∧ (t.body h).reported = some false
  reported : (t.dir h).state ≠ .free → ((t.body h).reported.isSome ↔ (t.dir h).state = .provisional)
  expiry : (queueTime h t.expiryQ).isSome ↔
    (t.dir h).state = .provisional ∨ ((t.dir h).state = .active ∧ (t.body h).leaseInterval > 0)
  hold : (queueTime h t.holdQ).isSome ↔ (t.dir h).state = .held
  timers : (t.dir h).state ≠ .free →
    (t.body h).deadline = queueTime h t.expiryQ ∧ (t.body h).holdEnd = queueTime h t.holdQ

theorem FlowTable.inv_iff : t.Inv ↔ t.StoreLaw ∧ t.ListLaw ∧ ∀ h, t.HandleLaw h := by
  constructor
  · rintro ⟨canonical, inTable, counts, reason, closedOnce, closed, learnedOnce, learned, reported, expiryQ, holdQ, expiry,
      hold, timers⟩
    exact ⟨⟨canonical, inTable, counts⟩, ⟨closedOnce, learnedOnce, expiryQ, holdQ⟩, fun h =>
      ⟨reason h, closed h, learned h, reported h, expiry h, hold h, timers h⟩⟩
  · rintro ⟨store, lists, handle⟩
    exact ⟨store.canonical, store.inTable, store.counts, fun h => (handle h).reason, lists.closed,
      fun h => (handle h).closed, lists.learned, fun h => (handle h).learned, fun h => (handle h).reported, lists.expiryQ,
      lists.holdQ, fun h => (handle h).expiry, fun h => (handle h).hold, fun h => (handle h).timers⟩

/-- An operation on one handle keeps the law when it keeps it of the store, of the lists and of its own handle, and leaves
every other handle as it was. -/
theorem FlowTable.Inv.of_handle (i : t.Inv) (h : Nat) (store : t.StoreLaw → u.StoreLaw)
    (lists : t.ListLaw → t.HandleLaw h → u.ListLaw) (own : t.HandleLaw h → u.HandleLaw h)
    (others : ∀ k, k ≠ h → t.HandleLaw k → u.HandleLaw k) : u.Inv := by
  obtain ⟨s, l, handle⟩ := FlowTable.inv_iff.mp i
  refine FlowTable.inv_iff.mpr ⟨store s, lists l (handle h), fun k => ?_⟩
  by_cases e : k = h
  · subst e; exact own (handle k)
  · exact others k e (handle k)

/-- What the law says of a handle is read from its slot, its places in the lists and its times in the queues. -/
theorem FlowTable.HandleLaw.of_same (law : t.HandleLaw k) (dir : u.dir k = t.dir k) (body : u.body k = t.body k)
    (closed : k ∈ u.closed ↔ k ∈ t.closed) (learned : k ∈ u.learned ↔ k ∈ t.learned)
    (expiry : queueTime k u.expiryQ = queueTime k t.expiryQ) (hold : queueTime k u.holdQ = queueTime k t.holdQ) :
    u.HandleLaw k := by
  refine ⟨?_, ?_, ?_, ?_, ?_, ?_, ?_⟩
  · rw [dir]; exact law.reason
  · rw [dir, closed]; exact law.closed
  · rw [dir, body, learned]; exact law.learned
  · rw [dir, body]; exact law.reported
  · rw [dir, body, expiry]; exact law.expiry
  · rw [dir, hold]; exact law.hold
  · rw [dir, body, expiry, hold]; exact law.timers

/-! ### The store and its counts (R40) -/

/-- A count over a store changes with one write by what was there and what is there now. -/
theorem countP_cellSet {α : Type} [DecidableEq α] (d : α) (q : α → Bool) (unlisted : q d = false) {m : List (Nat × α)}
    (sorted : m.Pairwise (fun a b => a.1 < b.1)) (n : Nat) (v : α) :
    (cellSet d m n v).countP (fun p => q p.2) + (q (cellGet d m n)).toNat = m.countP (fun p => q p.2) + (q v).toNat := by
  have insert : ∀ l : List (Nat × α),
      (cellInsert n v l).countP (fun p => q p.2) = l.countP (fun p => q p.2) + (q v).toNat := by
    intro l
    induction l with
    | nil => cases e : q v <;> simp [cellInsert, e]
    | cons p l ih =>
      simp only [cellInsert]
      split
      · cases e : q v <;> simp [List.countP_cons, e]
      · simp only [List.countP_cons, ih]; omega
  have remove : (m.filter (fun p => p.1 ≠ n)).countP (fun p => q p.2) + (q (cellGet d m n)).toNat
      = m.countP (fun p => q p.2) := by
    clear insert
    induction m with
    | nil => simp [cellGet, unlisted]
    | cons p m ih =>
      obtain ⟨first, rest⟩ := List.pairwise_cons.1 sorted
      by_cases e : p.1 = n
      · have absent : m.filter (fun p => p.1 ≠ n) = m :=
          List.filter_eq_self.mpr fun x mem => by have := first x mem; simp; omega
        rw [List.filter_cons_of_neg (by simp [e]), absent]
        cases y : q p.2 <;> simp [cellGet, e, y]
      · have ih := ih rest
        rw [List.filter_cons_of_pos (by simp [e]), List.countP_cons, List.countP_cons, ← ih]
        simp only [cellGet, if_neg (Ne.symm e)]
        omega
  unfold cellSet
  split
  next e => rw [← remove, e, unlisted]; rfl
  next => rw [insert, ← remove]; omega

theorem Slot.recordOf_powerOn (d : Fin 16) : Slot.powerOn.recordOf d = false := by simp [Slot.recordOf, Slot.powerOn]

theorem Slot.recordOf_iff {d : Fin 16} {x : Slot} : x.recordOf d = true ↔ x.dir.state ≠ .free ∧ x.dir.domain = d := by
  simp [Slot.recordOf]

/-- A slot that is listed lies in the table; one that is not reads as at power-on. -/
theorem FlowTable.StoreLaw.lt_slots (s : t.StoreLaw) (n : (t.dir h).state ≠ .free) : h < Config.slots :=
  s.inTable _ (mem_of_cellGet_ne Slot.powerOn t.slots h fun e => n (by
    rw [FlowTable.dir, FlowTable.slot, e]; rfl))

theorem FlowTable.StoreLaw.of_eq (s : t.StoreLaw) (slots : u.slots = t.slots) (counts : u.counts = t.counts) :
    u.StoreLaw :=
  ⟨slots ▸ s.canonical, fun p m => s.inTable p (slots ▸ m), fun d => by
    rw [FlowTable.count_congr counts d, slots]; exact s.counts d⟩

/-- A write of one slot, with the counts that go with it. -/
theorem FlowTable.StoreLaw.of_write (s : t.StoreLaw) {x : Slot} (inTable : h < Config.slots)
    (slots : u.slots = (t.setSlot h x).slots)
    (counts : ∀ d, u.count d + ((t.slot h).recordOf d).toNat = t.count d + (x.recordOf d).toNat) : u.StoreLaw := by
  refine ⟨slots ▸ t.setSlot_wf h x s.canonical, fun p m => ?_, fun d => ?_⟩
  · rw [slots] at m
    rcases mem_of_mem_cellSet _ _ _ _ _ m with rfl | m
    · exact inTable
    · exact s.inTable p m
  · have written := countP_cellSet Slot.powerOn (Slot.recordOf d) (Slot.recordOf_powerOn d) s.canonical.1 h x
    have := counts d
    rw [s.counts d] at this
    rw [slots]
    unfold FlowTable.slot at this
    unfold FlowTable.setSlot
    dsimp only
    omega

/-- A write of a slot that leaves a record of the same domain in it changes no count. -/
theorem FlowTable.StoreLaw.rewrite (s : t.StoreLaw) {x : Slot} (inTable : h < Config.slots)
    (same : ∀ d, x.recordOf d = (t.slot h).recordOf d) : (t.setSlot h x).StoreLaw :=
  s.of_write inTable rfl fun d => by rw [same d]; rfl

theorem FlowTable.StoreLaw.modifyBody (s : t.StoreLaw) (n : (t.dir h).state ≠ .free) (f : Body → Body) :
    (t.modifyBody h f).StoreLaw :=
  s.rewrite (s.lt_slots n) fun _ => rfl

theorem FlowTable.StoreLaw.setDir (s : t.StoreLaw) (n : (t.dir h).state ≠ .free) {e : DirEntry} (n' : e.state ≠ .free)
    (domain : e.domain = (t.dir h).domain) : (t.setDir h e).StoreLaw :=
  s.rewrite (s.lt_slots n) fun d => by
    unfold FlowTable.dir at n domain
    simp [Slot.recordOf, n, n', domain]

theorem FlowTable.StoreLaw.arm (s : t.StoreLaw) (n : (t.dir h).state ≠ .free) (w : Nat) : (t.arm h w).StoreLaw :=
  (s.modifyBody n fun b => { b with deadline := some w }).of_eq rfl rfl

theorem FlowTable.StoreLaw.disarm (s : t.StoreLaw) (n : (t.dir h).state ≠ .free) : (t.disarm h).StoreLaw :=
  (s.modifyBody n fun b => { b with deadline := none }).of_eq rfl rfl

theorem FlowTable.StoreLaw.armLease (s : t.StoreLaw) (n : (t.dir h).state ≠ .free) (now i : Nat) :
    (t.armLease h now i).StoreLaw := by
  unfold FlowTable.armLease
  split
  · exact s.arm n _
  · exact s.disarm n

theorem FlowTable.StoreLaw.refresh (s : t.StoreLaw) (n : (t.dir h).state ≠ .free) (now : Nat) :
    (t.refresh h now).StoreLaw := by
  unfold FlowTable.refresh
  split
  · exact s.arm n _
  · exact s

theorem FlowTable.StoreLaw.enterHold (s : t.StoreLaw) (n : (t.dir h).state ≠ .free) (w : Nat) :
    (t.enterHold h w).StoreLaw :=
  (s.modifyBody n fun b => { b with holdEnd := some w }).of_eq rfl rfl

theorem FlowTable.StoreLaw.leaveHold (s : t.StoreLaw) (n : (t.dir h).state ≠ .free) : (t.leaveHold h).StoreLaw :=
  (s.modifyBody n fun b => { b with holdEnd := none }).of_eq rfl rfl

theorem FlowTable.StoreLaw.unreport (s : t.StoreLaw) (n : (t.dir h).state ≠ .free) : (t.unreport h).StoreLaw :=
  s.modifyBody n _

theorem FlowTable.StoreLaw.unlist (s : t.StoreLaw) : (t.unlist h).StoreLaw := s.of_eq rfl rfl

theorem FlowTable.StoreLaw.setClosed (s : t.StoreLaw) (l : List Nat) : (t.setClosed l).StoreLaw := s.of_eq rfl rfl

theorem FlowTable.StoreLaw.damage (s : t.StoreLaw) (n : (t.dir h).state ≠ .free) : (t.damage h).StoreLaw := by
  have off := (((s.disarm n).leaveHold (h := h) (by simpa using n)).unlist (h := h)).unreport (h := h) (by simpa using n)
  exact (off.setDir (by simpa using n) (by simp) (by simp)).setClosed _

theorem FlowTable.StoreLaw.close (s : t.StoreLaw) (n : (t.dir h).state ≠ .free) (r : CloseReason) :
    (t.close h r false).StoreLaw := by
  have off := (s.disarm n).leaveHold (h := h) (by simpa using n)
  exact (off.setDir (h := h) (by simpa using n) (by simp) (by simp)).setClosed _

theorem FlowTable.StoreLaw.free (s : t.StoreLaw) (n : (t.dir h).state ≠ .free) : (t.free h).StoreLaw := by
  refine s.of_write (s.lt_slots n) rfl fun d => ?_
  have listed : (t.slot h).recordOf (t.dir h).domain = true := Slot.recordOf_iff.mpr ⟨n, rfl⟩
  rw [FlowTable.count_free]
  by_cases e : d = (t.dir h).domain
  · subst e
    have counted : 0 < t.count (t.dir h).domain := by
      rw [s.counts]
      refine List.countP_pos_iff.mpr ⟨_, mem_of_cellGet_ne Slot.powerOn t.slots h fun e => ?_, listed⟩
      rw [FlowTable.slot, e, Slot.recordOf_powerOn] at listed
      cases listed
    rw [listed]
    simp [Slot.recordOf]
    omega
  · have other : (t.slot h).recordOf d = false := by
      have ne : ¬ (t.slot h).dir.domain = d := fun x => e x.symm
      simp [Slot.recordOf, ne]
    rw [other]
    simp [Slot.recordOf, e]

theorem FlowTable.StoreLaw.create (s : t.StoreLaw) (inTable : h < Config.slots) (f : (t.dir h).state = .free)
    {x : RecState} (n : x ≠ .free) (d : Fin 16) (b : Body) : (t.create h x d b).StoreLaw := by
  refine s.of_write inTable rfl fun d' => ?_
  have unlisted : (t.slot h).recordOf d' = false := by
    have : (t.slot h).dir.state = .free := f
    simp [Slot.recordOf, this]
  rw [FlowTable.count_create, unlisted]
  by_cases e : d' = d
  · simp [Slot.recordOf, e, n]
  · simp [Slot.recordOf, e, Ne.symm e]

/-! ### The lists and queues -/

theorem QueueInv.remove {q : List (Nat × Nat)} (i : QueueInv q) (h : Nat) : QueueInv (queueRemove h q) :=
  queueRemove_inv h q i.1 i.2

theorem QueueInv.rearm {q : List (Nat × Nat)} (i : QueueInv q) (w h : Nat) :
    QueueInv (queueInsert w h (queueRemove h q)) :=
  queueInsert_inv h w _ (i.remove h).1 (i.remove h).2 fun p m => ((mem_queueRemove h q p).mp m).2

theorem QueueInv.refreshed {q q' : List (Nat × Nat)} {w : Nat} {c : Prop} [Decidable c] (i : QueueInv q)
    (e : q' = if c then queueInsert w h (queueRemove h q) else q) : QueueInv q' := by
  rw [e]
  split
  · exact i.rearm _ _
  · exact i

theorem nodup_append_new {l : List Nat} (n : l.Nodup) (new : h ∉ l) : (l ++ [h]).Nodup :=
  List.nodup_append.mpr ⟨n, by simp, fun a m b e => by simp at e; rintro rfl; exact new (e ▸ m)⟩

end Sys2Proof.Machine
end

section
/-! PROOF. The moves that every table operation is made of, with what the model tests before each, and the law of the flow
table through every move (R6, R11, R13, R15, R34, R104, R105, R113, R114, R120 to R123, R130). -/

namespace Sys2Proof.Machine

variable {s : State} {t u : FlowTable} {h k : Nat}

/-! ### The moves -/

/-- Something in the table says that a slot holds a record: its state, a queue or a list. -/
def FlowTable.Recorded (t : FlowTable) (h : Nat) : Prop :=
  (t.dir h).state ≠ .free ∨ (queueTime h t.expiryQ).isSome ∨ h ∈ t.learned ∨ h ∈ t.closed

/-- ACTIVE or HELD: the states that a closing and a hold admit (R114, R130). -/
def FlowTable.Live (t : FlowTable) (h : Nat) : Prop := (t.dir h).state = .active ∨ (t.dir h).state = .held

/-- The fields of a body that may be absent (R11). -/
def Body.optionals (b : Body) : Option Nat × Option Nat × Option Bool := (b.deadline, b.holdEnd, b.reported)

/-- The optional fields of a record as its creation writes them: PROVISIONAL with a deadline and unreported, or ACTIVE with
a deadline exactly when it has a lease (R13, R14). -/
structure Body.FreshAs (b : Body) (x : RecState) : Prop where
  hold : b.holdEnd = none
  state : (x = .provisional ∧ b.deadline.isSome ∧ b.reported = some false)
    ∨ (x = .active ∧ (b.deadline.isSome ↔ b.leaseInterval > 0) ∧ b.reported = none)

/-- What the values that an operation writes rest on: the settings in their ranges, and the arguments of the waiting command
checked (R146). -/
def State.Checked (s : State) : Prop := SettingsInv s ∧ ExecInv s

/-- One move of a table operation granted in a state, with the tests that the model makes before it. -/
inductive FlowTable.Move (s : State) (t : FlowTable) : FlowTable → Prop
  | damage (h : Nat) (recorded : t.Recorded h) : Move s t (t.damage h)
  | free (h : Nat) (recorded : t.Recorded h) : Move s t (t.free h)
  | close (h : Nat) (r : CloseReason) (auto : Bool) (live : t.Live h) : Move s t (t.close h r auto)
  | create (h : Nat) (x : RecState) (d : Fin 16) (b : Body) (inTable : h < Config.slots) (free : (t.dir h).state = .free)
      (quota : t.count d < s.domains[d].quota) (fresh : b.FreshAs x) (range : s.Checked → b.InRange) :
      Move s t (t.create h x d b)
  | write (h : Nat) (f : Body → Body) (recorded : t.Recorded h) (optionals : (f (t.body h)).optionals = (t.body h).optionals)
      (lease : (f (t.body h)).leaseInterval = (t.body h).leaseInterval ∨ (t.dir h).state ≠ .active)
      (range : s.Checked → (t.body h).InRange → (f (t.body h)).InRange) : Move s t (t.modifyBody h f)
  | refresh (h : Nat) (active : (t.dir h).state = .active) : Move s t (t.refresh h s.timer.timeBase)
  | hold (h ticks : Nat) (live : t.Live h) (some : ticks > 0) : Move s t (t.holdRule h s.timer.timeBase ticks)
  | release (h : Nat) (held : (t.dir h).state = .held) : Move s t (t.release h s.timer.timeBase)
  | relet (h i : Nat) (f : Body → Body) (active : (t.dir h).state = .active)
      (optionals : (f (t.body h)).optionals = (t.body h).optionals) (lease : (f (t.body h)).leaseInterval = i)
      (range : s.Checked → (t.body h).InRange → (f (t.body h)).InRange) :
      Move s t ((t.modifyBody h f).armLease h s.timer.timeBase i)
  | confirm (h i : Nat) (f : Body → Body) (provisional : (t.dir h).state = .provisional)
      (hold : (f (t.body h)).holdEnd = (t.body h).holdEnd) (lease : (f (t.body h)).leaseInterval = i)
      (unreported : (f (t.body h)).reported = none) (range : s.Checked → (t.body h).InRange → (f (t.body h)).InRange) :
      Move s t ((((t.setDir h { t.dir h with state := .active }).modifyBody h f).armLease h s.timer.timeBase i).unlist h)
  | report (h : Nat) (listed : h ∈ t.learned) :
      Move s t ((t.unlist h).modifyBody h (fun b => { b with reported := some true }))

/-- A table operation granted in a state: moves one after another. -/
abbrev FlowTable.Moves (s : State) : FlowTable → FlowTable → Prop := Relation.ReflTransGen (FlowTable.Move s)

theorem FlowTable.Move.moves (m : t.Move s u) : FlowTable.Moves s t u := .single m

theorem FlowTable.Moves.of_eq (e : u = t) : FlowTable.Moves s t u := e ▸ .refl

theorem FlowTable.Inv.recorded_not_free (i : t.Inv) (r : t.Recorded h) : (t.dir h).state ≠ .free := by
  obtain ⟨-, -, handle⟩ := FlowTable.inv_iff.mp i
  rcases r with n | expiry | learned | closed
  · exact n
  · rcases (handle h).expiry.mp expiry with e | ⟨e, -⟩ <;> simp [e]
  · simp [((handle h).learned.mp learned).1]
  · simp [(handle h).closed.mp closed]

theorem FlowTable.Live.not_free (live : t.Live h) : (t.dir h).state ≠ .free := by rcases live with e | e <;> simp [e]

/-! ### The law through each move -/

theorem FlowTable.Inv.damage (i : t.Inv) (n : (t.dir h).state ≠ .free) : (t.damage h).Inv := by
  refine i.of_handle h (fun s => s.damage n) (fun l law => ?lists) (fun law => ?own) (fun k ne law => ?others)
  case lists =>
    refine ⟨?_, by simpa using l.learned.filter _, by simpa using l.expiryQ.remove h, by simpa using l.holdQ.remove h⟩
    rw [FlowTable.damage_closed]
    split
    next => exact l.closed
    next open_ => exact nodup_append_new l.closed fun m => open_ (law.closed.mp m)
  case own =>
    have closed : h ∈ (if (t.dir h).state = .closing then t.closed else t.closed ++ [h]) := by
      split
      next e => exact law.closed.mpr e
      next => simp
    constructor <;> simp [FlowTable.dir_damage, FlowTable.body_damage, queueTime_remove, closed]
  case others =>
    refine law.of_same (by simp [FlowTable.dir_damage, ne]) (by simp [FlowTable.body_damage, ne]) ?_ (by simp [ne])
      (by simp [queueTime_remove, ne]) (by simp [queueTime_remove, ne])
    rw [FlowTable.damage_closed]
    split <;> simp [ne]

theorem FlowTable.Inv.free (i : t.Inv) (n : (t.dir h).state ≠ .free) : (t.free h).Inv := by
  refine i.of_handle h (fun s => s.free n) (fun l law => ?lists) (fun law => ?own) (fun k ne law => ?others)
  case lists =>
    exact ⟨by simpa using l.closed.filter _, by simpa using l.learned.filter _, by simpa using l.expiryQ.remove h,
      by simpa using l.holdQ.remove h⟩
  case own => constructor <;> simp [FlowTable.dir_free, queueTime_remove]
  case others =>
    exact law.of_same (by simp [FlowTable.dir_free, ne]) (by simp) (by simp [ne]) (by simp [ne])
      (by simp [queueTime_remove, ne]) (by simp [queueTime_remove, ne])

theorem FlowTable.Inv.close (i : t.Inv) (live : t.Live h) (r : CloseReason) (auto : Bool) : (t.close h r auto).Inv := by
  cases auto with
  | true => exact i.free live.not_free
  | false =>
    refine i.of_handle h (fun s => s.close live.not_free r) (fun l law => ?lists) (fun law => ?own)
      (fun k ne law => ?others)
    case lists =>
      have open_ : (t.dir h).state ≠ .closing := by rcases live with e | e <;> simp [e]
      exact ⟨by simpa using nodup_append_new l.closed fun m => open_ (law.closed.mp m), by simpa using l.learned,
        by simpa using l.expiryQ.remove h, by simpa using l.holdQ.remove h⟩
    case own =>
      have unreported : (t.body h).reported = none := by
        have := law.reported live.not_free
        rcases live with e | e <;> simpa [e] using this
      have unlisted : h ∉ t.learned := fun m => by simpa [unreported] using (law.learned.mp m).2
      constructor <;> simp [FlowTable.dir_close, FlowTable.body_close, queueTime_remove, unreported, unlisted]
    case others =>
      exact law.of_same (by simp [FlowTable.dir_close, ne]) (by simp [FlowTable.body_close, ne]) (by simp [ne]) (by simp)
        (by simp [queueTime_remove, ne]) (by simp [queueTime_remove, ne])

theorem FlowTable.Inv.create (i : t.Inv) (inTable : h < Config.slots) (f : (t.dir h).state = .free) {x : RecState}
    (d : Fin 16) {b : Body} (fresh : b.FreshAs x) : (t.create h x d b).Inv := by
  have n : x ≠ .free := by rcases fresh.state with ⟨rfl, -⟩ | ⟨rfl, -⟩ <;> simp
  have times : ∀ k, queueTime h t.expiryQ = none →
      queueTime k (t.create h x d b).expiryQ = if k = h then b.deadline else queueTime k t.expiryQ := by
    intro k absent
    rw [FlowTable.create_expiryQ]
    split
    next w e => rw [queueTime_rearm, e]
    next e => split <;> simp_all
  have absent : t.HandleLaw h → queueTime h t.expiryQ = none ∧ queueTime h t.holdQ = none := fun law => by
    have expiry := law.expiry
    have hold := law.hold
    simpa [f] using And.intro expiry hold
  refine i.of_handle h (fun s => s.create inTable f n d b) (fun l law => ?lists) (fun law => ?own)
    (fun k ne law => ?others)
  case lists =>
    refine ⟨by simpa using l.closed, ?_, ?_, by simpa using l.holdQ⟩
    · rw [FlowTable.create_learned]
      split
      · exact nodup_append_new l.learned fun m => by simpa [f] using (law.learned.mp m).1
      · exact l.learned
    · rw [FlowTable.create_expiryQ]
      split
      · exact l.expiryQ.rearm _ _
      · exact l.expiryQ
  case own =>
    have closed : h ∉ t.closed := fun m => by simpa [f] using law.closed.mp m
    have learned : h ∉ t.learned := fun m => by simpa [f] using (law.learned.mp m).1
    obtain ⟨expiry, hold⟩ := absent law
    have hold' := fresh.hold
    rcases fresh.state with ⟨rfl, deadline, reported⟩ | ⟨rfl, deadline, reported⟩ <;>
      constructor <;>
      simp [FlowTable.dir_create, FlowTable.body_create, closed, learned, reported, times h expiry, hold, hold', deadline]
  case others =>
    obtain ⟨i1, i2, handle⟩ := FlowTable.inv_iff.mp i
    refine law.of_same (by simp [FlowTable.dir_create, ne]) (by simp [FlowTable.body_create, ne]) (by simp) ?_
      (by simp [times k (absent (handle h)).1, ne]) (by simp)
    rw [FlowTable.create_learned]
    split <;> simp [ne]

theorem FlowTable.Inv.write (i : t.Inv) (n : (t.dir h).state ≠ .free) {f : Body → Body}
    (optionals : (f (t.body h)).optionals = (t.body h).optionals)
    (lease : (f (t.body h)).leaseInterval = (t.body h).leaseInterval ∨ (t.dir h).state ≠ .active) :
    (t.modifyBody h f).Inv := by
  refine i.of_handle h (fun s => s.modifyBody n f) (fun l _ => ⟨l.closed, l.learned, l.expiryQ, l.holdQ⟩)
    (fun law => ?own) (fun k ne law => ?others)
  case own =>
    simp only [Body.optionals, Prod.mk.injEq] at optionals
    obtain ⟨deadline, hold, reported⟩ := optionals
    have body : (t.modifyBody h f).body h = f (t.body h) := by simp [FlowTable.body_modifyBody]
    refine ⟨by simpa using law.reason, by simpa using law.closed, ?_, ?_, ?_, by simpa using law.hold, ?_⟩
    · simpa [body, reported] using law.learned
    · simpa [body, reported] using law.reported
    · rcases lease with e | e
      · simpa [body, e] using law.expiry
      · simpa [e] using law.expiry
    · simpa [body, deadline, hold] using law.timers
  case others =>
    exact law.of_same (by simp) (by simp [FlowTable.body_modifyBody, ne]) (by simp) (by simp) (by simp) (by simp)

/-- Every handle's time in a queue in which a handle is armed afresh under a condition. -/
theorem queueTime_refreshed {q q' : List (Nat × Nat)} {w : Nat} {c : Prop} [Decidable c] (k : Nat)
    (e : q' = if c then queueInsert w h (queueRemove h q) else q) :
    queueTime k q' = if k = h ∧ c then some w else queueTime k q := by
  rw [e]
  split
  next armed => simp [queueTime_rearm, armed]
  next kept => simp [kept]

theorem FlowTable.Inv.refresh (i : t.Inv) (active : (t.dir h).state = .active) (now : Nat) : (t.refresh h now).Inv := by
  have n : (t.dir h).state ≠ .free := by simp [active]
  have times := fun k => queueTime_refreshed k (t.refresh_expiryQ h now)
  refine i.of_handle h (fun s => s.refresh n now)
    (fun l _ => ⟨by simpa using l.closed, by simpa using l.learned, l.expiryQ.refreshed (t.refresh_expiryQ h now),
      by simpa using l.holdQ⟩)
    (fun law => ?own) (fun k ne law => ?others)
  case own =>
    have expiry := law.expiry
    have timers := law.timers n
    refine ⟨by simpa using law.reason, by simpa using law.closed, ?_, ?_, ?_, by simpa using law.hold, fun _ => ?_⟩
    · have := law.learned
      simp only [FlowTable.refresh_learned, FlowTable.dir_refresh, FlowTable.body_refresh]
      split <;> exact this
    · have := law.reported
      simp only [FlowTable.dir_refresh, FlowTable.body_refresh]
      split <;> exact this
    · rw [times, FlowTable.body_refresh]
      by_cases e : (t.body h).leaseInterval > 0
      · simp [e, active]
      · simpa [e, active] using expiry
    · rw [times, FlowTable.body_refresh]
      by_cases e : (t.body h).leaseInterval > 0
      · simpa [e] using timers.2
      · simpa [e] using timers
  case others =>
    exact law.of_same (by simp) (by simp [FlowTable.body_refresh, ne]) (by simp) (by simp) (by simp [times, ne]) (by simp)

/-- A record that is neither CLOSING nor PROVISIONAL stands in no list and has no reported field. -/
theorem FlowTable.HandleLaw.live (law : t.HandleLaw h) (live : t.Live h) :
    (t.dir h).closeReason = none ∧ h ∉ t.closed ∧ h ∉ t.learned ∧ (t.body h).reported = none := by
  have reason := law.reason
  have closed := law.closed
  have reported := law.reported live.not_free
  have learned := law.learned
  rcases live with e | e <;> simp_all

theorem FlowTable.Inv.hold (i : t.Inv) (live : t.Live h) (now : Nat) {ticks : Nat} (some_ : ticks > 0) :
    (t.holdRule h now ticks).Inv := by
  have queues : (t.holdRule h now ticks).expiryQ = queueRemove h t.expiryQ
      ∧ (t.holdRule h now ticks).holdQ = queueInsert (clampTime now ticks) h (queueRemove h t.holdQ) := by
    simp [FlowTable.holdRule, some_]
  obtain ⟨expiryQ, holdQ⟩ := queues
  refine i.of_handle h (fun s => ?store) (fun l law => ?lists) (fun law => ?own) (fun k ne law => ?others)
  case store =>
    have held := s.setDir (h := h) (e := { t.dir h with state := .held }) live.not_free (by simp) rfl
    have off := (held.disarm (h := h) (by simp [FlowTable.dir_setDir])).enterHold (h := h)
      (by simp [FlowTable.dir_setDir]) (clampTime now ticks)
    simpa [FlowTable.holdRule, some_] using off
  case lists =>
    exact ⟨by simpa using l.closed, by simpa using l.learned, expiryQ ▸ l.expiryQ.remove h, holdQ ▸ l.holdQ.rearm _ h⟩
  case own =>
    obtain ⟨reason, closed, learned, reported⟩ := law.live live
    constructor <;>
      simp [FlowTable.dir_holdRule _ _ _ _ _ some_, FlowTable.body_holdRule _ _ _ _ _ some_, reason, closed, learned,
        reported, expiryQ, holdQ, queueTime_remove, queueTime_rearm]
  case others =>
    exact law.of_same (by simp [FlowTable.dir_holdRule _ _ _ _ _ some_, ne])
      (by simp [FlowTable.body_holdRule _ _ _ _ _ some_, ne]) (by simp) (by simp)
      (by simp [expiryQ, queueTime_remove, ne]) (by simp [holdQ, queueTime_rearm, ne])

theorem FlowTable.Inv.release (i : t.Inv) (held : (t.dir h).state = .held) (now : Nat) : (t.release h now).Inv := by
  have n : (t.dir h).state ≠ .free := by simp [held]
  have times := fun k => queueTime_refreshed k (t.release_expiryQ h now)
  refine i.of_handle h (fun s => ?store) (fun l law => ?lists) (fun law => ?own) (fun k ne law => ?others)
  case store =>
    have active := s.setDir (h := h) (e := { t.dir h with state := .active }) n (by simp) rfl
    exact (active.leaveHold (h := h) (by simp [FlowTable.dir_setDir])).refresh (h := h)
      (by simp [FlowTable.dir_setDir]) now
  case lists =>
    exact ⟨by simpa using l.closed, by simpa using l.learned, l.expiryQ.refreshed (t.release_expiryQ h now),
      by simpa using l.holdQ.remove h⟩
  case own =>
    obtain ⟨reason, closed, learned, reported⟩ := law.live (.inr held)
    have unarmed : queueTime h t.expiryQ = none := by simpa [held] using law.expiry
    have deadline : (t.body h).deadline = none := by rw [(law.timers n).1, unarmed]
    constructor <;>
      simp [FlowTable.dir_release, FlowTable.body_release, reason, closed, learned, reported, times, queueTime_remove,
        unarmed, deadline]
  case others =>
    exact law.of_same (by simp [FlowTable.dir_release, ne]) (by simp [FlowTable.body_release, ne]) (by simp) (by simp)
      (by simp [times, ne]) (by simp [queueTime_remove, ne])

theorem QueueInv.leased {q : List (Nat × Nat)} (i : QueueInv q) (now n : Nat) :
    QueueInv (if n > 0 then queueInsert (clampTime now n) h (queueRemove h q) else queueRemove h q) := by
  split
  · exact i.rearm _ _
  · exact i.remove _

theorem queueTime_leased (now n : Nat) (q : List (Nat × Nat)) :
    queueTime k (if n > 0 then queueInsert (clampTime now n) h (queueRemove h q) else queueRemove h q) =
      if k = h then (if n > 0 then some (clampTime now n) else none) else queueTime k q := by
  split
  next => rw [queueTime_rearm]
  next => rw [queueTime_remove]

theorem FlowTable.Inv.relet (i : t.Inv) (active : (t.dir h).state = .active) {f : Body → Body} {n : Nat}
    (optionals : (f (t.body h)).optionals = (t.body h).optionals) (lease : (f (t.body h)).leaseInterval = n) (now : Nat) :
    ((t.modifyBody h f).armLease h now n).Inv := by
  have notFree : (t.dir h).state ≠ .free := by simp [active]
  refine i.of_handle h (fun s => (s.modifyBody notFree f).armLease (by simp [active]) now n) (fun l law => ?lists)
    (fun law => ?own) (fun k ne law => ?others)
  case lists =>
    exact ⟨by simpa using l.closed, by simpa using l.learned,
      by simpa [FlowTable.armLease_expiryQ] using l.expiryQ.leased now n, by simpa using l.holdQ⟩
  case own =>
    simp only [Body.optionals, Prod.mk.injEq] at optionals
    obtain ⟨-, hold, reported⟩ := optionals
    obtain ⟨reason, closed, learned, reported'⟩ := law.live (.inl active)
    have unheld : queueTime h t.holdQ = none := by simpa [active] using law.hold
    have holdEnd : (t.body h).holdEnd = none := by rw [(law.timers notFree).2, unheld]
    constructor <;>
      simp [FlowTable.body_armLease, FlowTable.body_modifyBody, FlowTable.armLease_expiryQ, queueTime_leased, active,
        reason, closed, learned, hold, reported, reported', unheld, holdEnd, lease]
  case others =>
    exact law.of_same (by simp) (by simp [FlowTable.body_armLease, FlowTable.body_modifyBody, ne]) (by simp) (by simp)
      (by simp [FlowTable.armLease_expiryQ, queueTime_leased, ne]) (by simp)

theorem FlowTable.Inv.confirm (i : t.Inv) (provisional : (t.dir h).state = .provisional) {f : Body → Body} {n : Nat}
    (hold : (f (t.body h)).holdEnd = (t.body h).holdEnd) (lease : (f (t.body h)).leaseInterval = n)
    (unreported : (f (t.body h)).reported = none) (now : Nat) :
    ((((t.setDir h { t.dir h with state := .active }).modifyBody h f).armLease h now n).unlist h).Inv := by
  have notFree : (t.dir h).state ≠ .free := by simp [provisional]
  refine i.of_handle h (fun s => ?store) (fun l law => ?lists) (fun law => ?own) (fun k ne law => ?others)
  case store =>
    have active := s.setDir (h := h) (e := { t.dir h with state := .active }) notFree (by simp) rfl
    exact ((active.modifyBody (h := h) (by simp [FlowTable.dir_setDir]) f).armLease (h := h)
      (by simp [FlowTable.dir_setDir]) now n).unlist
  case lists =>
    exact ⟨by simpa using l.closed, by simpa using l.learned.filter _,
      by simpa [FlowTable.armLease_expiryQ] using l.expiryQ.leased now n, by simpa using l.holdQ⟩
  case own =>
    have reason : (t.dir h).closeReason = none := by simpa [provisional] using law.reason
    have closed : h ∉ t.closed := by simpa [provisional] using law.closed
    have unheld : queueTime h t.holdQ = none := by simpa [provisional] using law.hold
    have holdEnd : (t.body h).holdEnd = none := by rw [(law.timers notFree).2, unheld]
    constructor <;>
      simp [FlowTable.dir_setDir, FlowTable.body_armLease, FlowTable.body_modifyBody, FlowTable.armLease_expiryQ,
        queueTime_leased, reason, closed, hold, unreported, unheld, holdEnd, lease]
  case others =>
    exact law.of_same (by simp [FlowTable.dir_setDir, ne])
      (by simp [FlowTable.body_armLease, FlowTable.body_modifyBody, ne]) (by simp) (by simp [ne])
      (by simp [FlowTable.armLease_expiryQ, queueTime_leased, ne]) (by simp)

theorem FlowTable.Inv.report (i : t.Inv) (listed : h ∈ t.learned) :
    ((t.unlist h).modifyBody h (fun b => { b with reported := some true })).Inv := by
  have notFree := i.learned_not_free listed
  refine i.of_handle h (fun s => s.unlist.modifyBody (by simpa using notFree) _) (fun l law => ?lists) (fun law => ?own)
    (fun k ne law => ?others)
  case lists =>
    exact ⟨by simpa using l.closed, by simpa using l.learned.filter _, by simpa using l.expiryQ, by simpa using l.holdQ⟩
  case own =>
    obtain ⟨provisional, -⟩ := law.learned.mp listed
    refine ⟨by simpa using law.reason, by simpa using law.closed, by simp [FlowTable.body_modifyBody],
      by simp [FlowTable.body_modifyBody, provisional], ?_, by simpa using law.hold, ?_⟩
    · simpa [provisional] using law.expiry
    · simpa [FlowTable.body_modifyBody] using law.timers
  case others =>
    exact law.of_same (by simp) (by simp [FlowTable.body_modifyBody, ne]) (by simp) (by simp [ne]) (by simp) (by simp)

/-- Every move keeps the law of the flow table. -/
theorem FlowTable.Move.inv (m : t.Move s u) (i : t.Inv) : u.Inv := by
  cases m with
  | damage h recorded => exact i.damage (i.recorded_not_free recorded)
  | free h recorded => exact i.free (i.recorded_not_free recorded)
  | close h r auto live => exact i.close live r auto
  | create h x d b inTable free quota fresh => exact i.create inTable free d fresh
  | write h f recorded optionals lease => exact i.write (i.recorded_not_free recorded) optionals lease
  | refresh h active => exact i.refresh active _
  | hold h ticks live some => exact i.hold live _ some
  | release h held => exact i.release held _
  | relet h n f active optionals lease => exact i.relet active optionals lease _
  | confirm h n f provisional hold lease unreported => exact i.confirm provisional hold lease unreported _
  | report h listed => exact i.report listed

/-- Every table operation keeps the law of the flow table. -/
theorem FlowTable.Moves.inv (m : FlowTable.Moves s t u) (i : t.Inv) : u.Inv := by
  induction m with
  | refl => exact i
  | tail _ move ih => exact move.inv ih

end Sys2Proof.Machine
end

section
/-! PROOF. Every table operation is made of moves (chapters 2, 5, 6, 7, 9 and 10), and the bodies that the moves write are
in their ranges while the settings are (section 1.4). -/

namespace Sys2Proof.Machine

variable {s : State} {t u : FlowTable} {h k : Nat}

/-! ### Bodies in their ranges (section 1.4) -/

theorem clampTime_le (now n : Nat) : clampTime now n ≤ Config.timeMax := min_le_left _ _

theorem State.Checked.timeBase_le (c : s.Checked) : s.timer.timeBase ≤ Config.timeMax := by
  obtain ⟨⟨-, -, -, -, -, -, timeBase⟩, -⟩ := c
  exact timeBase

theorem State.Checked.burst_le (c : s.Checked) (p : Fin 64) : s.profiles[p].burst ≤ 16777215 := by
  obtain ⟨⟨-, profiles, -⟩, -⟩ := c
  exact (profiles p).2

theorem State.Checked.burstOf_le (c : s.Checked) (p : Fin 64) : burstOf s.profiles p ≤ 16777215 := by
  unfold burstOf
  split
  · simp
  · exact c.burst_le p

theorem State.Checked.learnLease_le (c : s.Checked) (d : Fin 16) : s.domains[d].learnLease ≤ 65535 := by
  obtain ⟨⟨-, -, domains, -⟩, -⟩ := c
  exact (domains d).1

/-- The waiting command has passed its argument checks (R146). -/
theorem State.Checked.arguments (c : s.Checked) {kind : Byte} {d : Descriptor} (g : s.AtGrant kind d) : checkFor d = true :=
  c.2 _ g.2.1 rfl

theorem Body.InRange.counted {b : Body} (r : b.InRange) (length : Nat) (conforms : Bool) :
    (b.counted length conforms).InRange := by
  obtain ⟨lease, tokens, meterTime, created, -, -, exceeds, deadline, hold⟩ := r
  refine ⟨lease, tokens, meterTime, created, min_le_left _ _, min_le_left _ _, ?_, deadline, hold⟩
  cases conforms with
  | true => exact exceeds
  | false => exact min_le_left _ _

/-- The tokens that a meter update leaves are at most the burst (R51). -/
theorem meter_tokens_le (p : Profile) (tokens elapsed length : Nat) : (meter p tokens elapsed length).1 ≤ p.burst := by
  unfold meter
  dsimp only
  split <;> dsimp only <;> omega

theorem Body.InRange.metered {b : Body} (r : b.InRange) (c : s.Checked) (length : Nat) :
    (b.metered s.profiles s.timer.timeBase length).1.InRange := by
  unfold Body.metered
  split
  · exact r
  · obtain ⟨lease, -, -, created, packets, bytes, exceeds, deadline, hold⟩ := r
    exact ⟨lease, (meter_tokens_le ..).trans (c.burst_le _), c.timeBase_le, created, packets, bytes, exceeds, deadline, hold⟩

theorem Body.InRange.assignProfile {b : Body} (r : b.InRange) (c : s.Checked) (p : Fin 64) :
    (b.assignProfile s.profiles p s.timer.timeBase).InRange := by
  obtain ⟨lease, -, -, created, packets, bytes, exceeds, deadline, hold⟩ := r
  exact ⟨lease, c.burstOf_le p, c.timeBase_le, created, packets, bytes, exceeds, deadline, hold⟩

/-- A body keeps its ranges when its counters and its lease are written in theirs. -/
theorem Body.InRange.relet {b : Body} (r : b.InRange) {n : Nat} (lease : n ≤ 65535) :
    ({ b with leaseInterval := n } : Body).InRange :=
  ⟨lease, r.2⟩

theorem Body.InRange.collected {b : Body} (r : b.InRange) :
    ({ b with packets := 0, bytes := 0, exceeds := 0 } : Body).InRange := by
  obtain ⟨lease, tokens, meterTime, created, -, -, -, deadline, hold⟩ := r
  exact ⟨lease, tokens, meterTime, created, by simp, by simp, by simp, deadline, hold⟩

theorem learnedConfirm_inRange (c : s.Checked) (dom : DomainEntry) (ch : Fin 4) (key : Key) {length : Nat}
    (l : length ≤ 65535) : (learnedConfirm dom ch key s.timer.timeBase length).InRange := by
  refine ⟨by simp [learnedConfirm], by simp [learnedConfirm], c.timeBase_le, c.timeBase_le, by simp [learnedConfirm], ?_,
    by simp [learnedConfirm], ?_, by simp [learnedConfirm]⟩
  · simp only [learnedConfirm, Config.bytesMax]; omega
  · rintro w ⟨⟩; exact clampTime_le _ _

theorem learnedAuto_inRange (c : s.Checked) (d : Fin 16) (ch : Fin 4) (key : Key) :
    (learnedAuto s.domains[d] s.profiles ch key s.timer.timeBase).InRange := by
  refine ⟨c.learnLease_le d, c.burstOf_le _, c.timeBase_le, c.timeBase_le, by simp [learnedAuto], by simp [learnedAuto],
    by simp [learnedAuto], fun w e => ?_, by simp [learnedAuto]⟩
  simp only [learnedAuto, Option.ite_none_right_eq_some, Option.some.injEq] at e
  exact e.2 ▸ clampTime_le _ _

theorem insertedBody_inRange (c : s.Checked) {d : Descriptor} (lease : leaseArg d ≤ 65535) (key : Key) :
    (insertedBody d s.profiles key s.timer.timeBase).InRange := by
  refine ⟨lease, c.burstOf_le _, c.timeBase_le, c.timeBase_le, by simp [insertedBody], by simp [insertedBody],
    by simp [insertedBody], fun w e => ?_, by simp [insertedBody]⟩
  simp only [insertedBody, Option.ite_none_right_eq_some, Option.some.injEq] at e
  exact e.2 ▸ clampTime_le _ _

theorem modifyFields_inRange {b : Body} (r : b.InRange) (c : s.Checked) {d : Descriptor}
    (lease : modifySelects d 2 = true → leaseArg d ≤ 65535) :
    (modifyFields d s.profiles s.timer.timeBase b).InRange := by
  have classed : (if modifySelects d 0 then { b with cls := classArg d } else b).InRange := by split <;> exact r
  unfold modifyFields
  dsimp only
  revert classed
  generalize (if modifySelects d 0 then { b with cls := classArg d } else b) = b₀
  intro classed
  have profiled : (if modifySelects d 1 then b₀.assignProfile s.profiles (profileArg d) s.timer.timeBase else b₀).InRange := by
    split
    · exact classed.assignProfile c _
    · exact classed
  revert profiled
  generalize (if modifySelects d 1 then b₀.assignProfile s.profiles (profileArg d) s.timer.timeBase else b₀) = b₁
  intro profiled
  have leased : (if modifySelects d 2 then { b₁ with leaseInterval := leaseArg d } else b₁).InRange := by
    split
    next selected => exact profiled.relet (lease selected)
    next => exact profiled
  split <;> exact leased

/-! ### The optional fields of written bodies (R11) -/

@[simp] theorem Body.optionals_counted (b : Body) (length : Nat) (conforms : Bool) :
    (b.counted length conforms).optionals = b.optionals := rfl

@[simp] theorem Body.optionals_metered (b : Body) (ps : Vector Profile 64) (now length : Nat) :
    (b.metered ps now length).1.optionals = b.optionals := by
  unfold Body.metered
  split <;> rfl

@[simp] theorem Body.leaseInterval_metered (b : Body) (ps : Vector Profile 64) (now length : Nat) :
    (b.metered ps now length).1.leaseInterval = b.leaseInterval := by
  unfold Body.metered
  split <;> rfl

@[simp] theorem Body.optionals_modifyFields (d : Descriptor) (ps : Vector Profile 64) (now : Nat) (b : Body) :
    (modifyFields d ps now b).optionals = b.optionals := by
  unfold modifyFields Body.optionals Body.assignProfile
  split_ifs <;> rfl

theorem Body.leaseInterval_modifyFields (d : Descriptor) (ps : Vector Profile 64) (now : Nat) (b : Body) :
    (modifyFields d ps now b).leaseInterval = if modifySelects d 2 then leaseArg d else b.leaseInterval := by
  unfold modifyFields Body.assignProfile
  split_ifs <;> rfl

/-- The meter and the counters write no optional field of a body fresh in its slot. -/
theorem Body.FreshAs.of_optionals {b b' : Body} {x : RecState} (f : b.FreshAs x) (optionals : b'.optionals = b.optionals)
    (lease : b'.leaseInterval = b.leaseInterval) : b'.FreshAs x := by
  simp only [Body.optionals, Prod.mk.injEq] at optionals
  obtain ⟨deadline, hold, reported⟩ := optionals
  exact ⟨hold ▸ f.hold, deadline ▸ reported ▸ lease ▸ f.state⟩

theorem learnedAuto_fresh (dom : DomainEntry) (ps : Vector Profile 64) (ch : Fin 4) (key : Key) (now : Nat) :
    (learnedAuto dom ps ch key now).FreshAs .active :=
  ⟨rfl, .inr ⟨rfl, by simp only [learnedAuto]; split <;> simp_all, rfl⟩⟩

theorem learnedConfirm_fresh (dom : DomainEntry) (ch : Fin 4) (key : Key) (now length : Nat) :
    (learnedConfirm dom ch key now length).FreshAs .provisional :=
  ⟨rfl, .inl ⟨rfl, rfl, rfl⟩⟩

theorem insertedBody_fresh (d : Descriptor) (ps : Vector Profile 64) (key : Key) (now : Nat) :
    (insertedBody d ps key now).FreshAs .active :=
  ⟨rfl, .inr ⟨rfl, by simp only [insertedBody]; split <;> simp_all, rfl⟩⟩

/-! ### Search and placement (R23, R25) -/

theorem FlowTable.searchIn_moves (d : Fin 16) (key : Key) (hs : List Nat) (t : FlowTable) :
    FlowTable.Moves s t (t.searchIn d key hs).1 := by
  induction hs generalizing t with
  | nil => exact .refl
  | cons h hs ih =>
    unfold FlowTable.searchIn
    split
    · exact ih t
    next candidate =>
      have matchable : (t.dir h).matchable = true := by
        by_contra m
        exact candidate (by simp [m])
      have notFree : (t.dir h).state ≠ .free := DirEntry.not_free_of_matchable matchable
      split
      · exact (FlowTable.Move.damage h (.inl notFree)).moves.trans (ih _)
      · split
        · exact .refl
        · exact ih t

theorem FlowTable.search_moves (t : FlowTable) (seed : BitVec 11) (d : Fin 16) (key : Key) :
    FlowTable.Moves s t (t.search seed d key).1 := FlowTable.searchIn_moves _ _ _ _

theorem FlowTable.placement_inTable {b : BitVec 11} (e : t.placement b = some h) :
    h < Config.slots ∧ (t.dir h).state = .free := by
  obtain ⟨candidate, free⟩ := t.placement_free b h e
  refine ⟨?_, free⟩
  have below := b.isLt
  rcases mem_candidates.mp candidate with way | ⟨-, spill⟩
  · simp only [Config.slots]; omega
  · exact spill

/-! ### The requests of the channels at the table (chapter 5) -/

theorem FlowTable.hitActive_moves (active : (t.dir h).state = .active) (length : Nat) :
    FlowTable.Moves s t (t.hitActive s.profiles h s.timer.timeBase length).1 := by
  have counted : t.Move s (t.modifyBody h fun _ => ((t.body h).metered s.profiles s.timer.timeBase length).1.counted length
      ((t.body h).metered s.profiles s.timer.timeBase length).2) :=
    .write h _ (.inl (by simp [active])) (by simp) (.inl (by simp [Body.counted]))
      fun c r => (r.metered c length).counted _ _
  exact counted.moves.tail (.refresh h (by simpa using active))

theorem FlowTable.hit_moves (t : FlowTable) (h length : Nat) :
    FlowTable.Moves s t (t.hit s.profiles h s.timer.timeBase length).1 := by
  unfold FlowTable.hit
  split
  next active => exact FlowTable.hitActive_moves active length
  next => exact .refl
  next provisional =>
    exact FlowTable.Move.moves (.write h (fun b => b.counted length true) (.inl (by simp [provisional])) rfl (.inl rfl)
      fun _ r => r.counted length true)
  next => exact .refl
  next => exact .refl

theorem FlowTable.learn_moves (ch : Fin 4) (d : Fin 16) (key : Key) {length : Nat} (l : length ≤ 65535)
    (inTable : h < Config.slots) (free : (t.dir h).state = .free) (quota : t.count d < s.domains[d].quota) :
    FlowTable.Moves s t (t.learn s.domains[d] s.profiles ch d key h s.timer.timeBase length).1 := by
  unfold FlowTable.learn
  split
  next =>
    have fresh := learnedAuto_fresh s.domains[d] s.profiles ch key s.timer.timeBase
    exact FlowTable.Move.moves (.create h .active d _ inTable free quota
      (fresh.of_optionals (by simp) (by simp [Body.counted]))
      fun c => ((learnedAuto_inRange c d ch key).metered c length).counted _ _)
  all_goals
    exact FlowTable.Move.moves (.create h .provisional d _ inTable free quota (learnedConfirm_fresh _ _ _ _ _)
      fun c => learnedConfirm_inRange c _ ch key l)

theorem FlowTable.missed_moves (t : FlowTable) (ch : Fin 4) (d : Fin 16) (key : Key) (b : BitVec 11) (flag : Bool)
    {length : Nat} (l : length ≤ 65535) :
    FlowTable.Moves s t (t.missed s.domains[d] s.profiles ch d key b flag s.timer.timeBase length).1 := by
  unfold FlowTable.missed
  split
  · exact .refl
  · split
    next quota =>
      split
      next h e =>
        obtain ⟨inTable, free⟩ := FlowTable.placement_inTable e
        exact FlowTable.learn_moves ch d key l inTable free quota
      next => exact .refl
    next => exact .refl

theorem State.lookupOp_moves (s : State) (ch : Fin 4) (d : Fin 16) (flag : Bool) {length : Nat} (l : length ≤ 65535)
    (key : Key) : FlowTable.Moves s s.table (s.lookupOp ch d flag length key).1 := by
  have found := s.table.search_moves (s := s) s.seed d (key &&& s.domains[d].mask)
  unfold State.lookupOp
  dsimp only
  split
  · exact .refl
  · split
    next u h e => rw [e] at found; exact found.trans (u.hit_moves h length)
    next u e => rw [e] at found; exact found.trans (u.missed_moves ch d _ _ _ l)

theorem State.peekOp_moves (s : State) (d : Fin 16) (key : Key) : FlowTable.Moves s s.table (s.peekOp d key).1 := by
  have found := s.table.search_moves (s := s) s.seed d (key &&& s.domains[d].mask)
  unfold State.peekOp
  dsimp only
  split
  · exact .refl
  · split
    next e => rw [e] at found; exact found
    next e => rw [e] at found; exact found

/-- The hold rule releases, holds, or changes nothing (R114). -/
theorem FlowTable.holdRule_moves (live : t.Live h) (ticks : Nat) :
    FlowTable.Moves s t (t.holdRule h s.timer.timeBase ticks) := by
  by_cases some : ticks > 0
  · exact FlowTable.Move.moves (.hold h ticks live some)
  · obtain rfl : ticks = 0 := by omega
    by_cases held : (t.dir h).state = .held
    · rw [t.holdRule_zero_held h _ held]; exact FlowTable.Move.moves (.release h held)
    · rw [t.holdRule_zero_other h _ held]

theorem State.holdOp_moves (s : State) (h : Nat) (generation : Byte) (ticks : Nat) :
    FlowTable.Moves s s.table (s.holdOp h generation ticks).1 := by
  unfold State.holdOp
  dsimp only
  split
  · exact .refl
  · split
    · exact .refl
    next state =>
      have live : s.table.Live h := by unfold FlowTable.Live; tauto
      split
      · exact FlowTable.Move.moves (.damage h (.inl live.not_free))
      · exact FlowTable.holdRule_moves live ticks

/-! ### The operations of the lease timer (R108, R117) -/

theorem State.expiryOp_moves (s : State) (h : Nat) : FlowTable.Moves s s.table (s.expiryOp h) := by
  unfold State.expiryOp
  dsimp only
  split
  next due =>
    have recorded : s.table.Recorded h := .inr (.inl (dueIn_isSome due))
    split
    · exact FlowTable.Move.moves (.damage h recorded)
    · split
      next active => exact FlowTable.Move.moves (.close h _ _ (.inl active))
      next => exact FlowTable.Move.moves (.free h recorded)
      all_goals exact .refl
  next => exact .refl

theorem State.holdEndOp_moves (s : State) (h : Nat) : FlowTable.Moves s s.table (s.holdEndOp h) := by
  unfold State.holdEndOp
  dsimp only
  split
  next held =>
    obtain ⟨held, -⟩ := held
    split
    · exact FlowTable.Move.moves (.damage h (.inl (by simp [held])))
    · exact FlowTable.Move.moves (.release h held)
  next => exact .refl

/-! ### Sweep positions (R170, R171) -/

theorem sweepAct_moves (act : SweepAction) (h : Nat)
    (state : (t.dir h).state = .provisional ∨ t.Live h) :
    FlowTable.Moves s t (sweepAct act s.profiles s.domains s.timer.timeBase h t).1 := by
  have recorded : t.Recorded h := .inl (by rcases state with e | live; · simp [e]
                                           · exact live.not_free)
  cases act with
  | count => exact .refl
  | retire =>
    dsimp only [sweepAct]
    split
    · exact .refl
    · split
      next => exact FlowTable.Move.moves (.free h recorded)
      next other => exact FlowTable.Move.moves (.close h _ _ (state.resolve_left other))
  | reclass =>
    dsimp only [sweepAct]
    split
    · exact .refl
    · dsimp only
      exact FlowTable.Move.moves (.write h _ recorded rfl (.inl rfl) fun _ r => r)
  | reprofile p =>
    dsimp only [sweepAct]
    split
    · exact .refl
    · dsimp only
      exact FlowTable.Move.moves (.write h _ recorded rfl (.inl rfl) fun c r => r.assignProfile c p)
  | release =>
    dsimp only [sweepAct]
    split
    · exact .refl
    next held =>
      exact FlowTable.Move.moves (.release h (by
        simp only [Bool.or_eq_true, decide_eq_true_eq, not_or, not_not] at held
        exact held.2))

theorem SweepParams.state_of_selects {p : SweepParams} {e : DirEntry} (x : p.selects e = true) :
    e.state = .provisional ∨ e.state = .active ∨ e.state = .held := by
  unfold SweepParams.selects SweepParams.inStateSet at x
  cases state : e.state <;> simp [state] at x ⊢

theorem sweepSlot_moves (p : SweepParams) (h : Nat) (acc : FlowTable × SweepCounts) :
    FlowTable.Moves s acc.1 (sweepSlot p s.profiles s.domains s.timer.timeBase acc h).1 := by
  unfold sweepSlot
  dsimp only
  split
  · exact .refl
  next notFree =>
    split
    · exact .refl
    next selected =>
      have state := SweepParams.state_of_selects (p := p) (e := acc.1.dir h) (by simpa using selected)
      split
      · exact FlowTable.Move.moves (.damage h (.inl notFree))
      · split
        · exact .refl
        · exact sweepAct_moves p.action h state

theorem sweepSlots_moves (p : SweepParams) (hs : List Nat) (acc : FlowTable × SweepCounts) :
    FlowTable.Moves s acc.1 (hs.foldl (sweepSlot p s.profiles s.domains s.timer.timeBase) acc).1 := by
  induction hs generalizing acc with
  | nil => exact .refl
  | cons h hs ih => exact (sweepSlot_moves p h acc).trans (ih _)

theorem State.positionOp_moves (s : State) : FlowTable.Moves s s.table s.positionOp.1 :=
  sweepSlots_moves s.sweep.params (positionHandles s.sweep.cursor) (s.table, ⟨0, 0, 0⟩)

/-! ### The operations of commands (chapters 7 and 9) -/

section Commands
variable {d : Descriptor}

/-- A command on a reference damages the record, or moves the table as its own act does in a state that it admits. -/
theorem onReference_moves {admits : RecState → Bool} {act : Descriptor → State → State × Status × Results}
    (own : (s.table.dir (handleOf d)).state ≠ .free → admits (s.table.dir (handleOf d)).state = true →
      FlowTable.Moves s s.table (act d s).1.table) :
    FlowTable.Moves s s.table (onReference admits act d s).1.table := by
  rcases onReference_cases (s := s) admits act d with e | ⟨e, n, -⟩ | ⟨e, n, a, -⟩
  · rw [e]
  · rw [e]; exact FlowTable.Move.moves (.damage _ (.inl n))
  · rw [e]; exact own n a

theorem live_of_activeOrHeld (a : activeOrHeld (t.dir h).state = true) : t.Live h := by
  simpa [activeOrHeld, FlowTable.Live] using a

theorem provisional_of_onlyProvisional {x : RecState} (a : onlyProvisional x = true) : x = .provisional := by
  simpa [onlyProvisional] using a

theorem holdAct_moves (live : s.table.Live (handleOf d)) : FlowTable.Moves s s.table (holdAct d s).1.table :=
  FlowTable.holdRule_moves live _

theorem confirmAct_moves (g : s.AtGrant 11#8 d) (provisional : (s.table.dir (handleOf d)).state = .provisional) :
    FlowTable.Moves s s.table (confirmAct d s).1.table := by
  refine FlowTable.Move.moves (.confirm (handleOf d) (leaseArg d) _ provisional rfl rfl rfl fun c r => ?_)
  have checks := c.arguments g
  simp only [checkFor, g.2.2] at checks
  have lease : leaseArg d ≤ 65535 := by
    simp [checkConfirm, checkSettings] at checks
    omega
  exact (r.assignProfile c _).relet lease

theorem rejectAct_moves (n : (s.table.dir (handleOf d)).state ≠ .free) :
    FlowTable.Moves s s.table (rejectAct d s).1.table :=
  FlowTable.Move.moves (.free _ (.inl n))

theorem retireAct_moves (live : s.table.Live (handleOf d)) : FlowTable.Moves s s.table (retireAct d s).1.table :=
  FlowTable.Move.moves (.close _ _ _ live)

theorem collectAct_moves (n : (s.table.dir (handleOf d)).state ≠ .free) :
    FlowTable.Moves s s.table (collectAct d s).1.table :=
  FlowTable.Move.moves (.write _ (fun b => { b with packets := 0, bytes := 0, exceeds := 0 }) (.inl n) rfl (.inl rfl)
    fun _ r => r.collected)

theorem modifyAct_moves (g : s.AtGrant 18#8 d) (live : s.table.Live (handleOf d)) :
    FlowTable.Moves s s.table (modifyAct d s).1.table := by
  have range : s.Checked → (s.table.body (handleOf d)).InRange →
      (modifyFields d s.profiles s.timer.timeBase (s.table.body (handleOf d))).InRange := fun c r => by
    have checks := c.arguments g
    simp only [checkFor, g.2.2] at checks
    refine modifyFields_inRange r c fun selected => ?_
    simp [checkModify, selected] at checks
    omega
  have lease := Body.leaseInterval_modifyFields d s.profiles s.timer.timeBase (s.table.body (handleOf d))
  unfold modifyAct
  dsimp only
  split
  next releted =>
    simp only [FlowTable.dir_modifyBody, Bool.and_eq_true, decide_eq_true_eq] at releted
    obtain ⟨selected, active⟩ := releted
    rw [if_pos selected] at lease
    exact FlowTable.Move.moves (.relet _ _ _ active (by simp) lease range)
  next kept =>
    simp only [FlowTable.dir_modifyBody, Bool.and_eq_true, decide_eq_true_eq, not_and] at kept
    refine FlowTable.Move.moves (.write _ _ (.inl live.not_free) (by simp) ?_ range)
    by_cases selected : modifySelects d 2 = true
    · exact .inr (kept selected)
    · rw [if_neg selected] at lease; exact .inl lease

theorem fetchLearnedOp_moves : FlowTable.Moves s s.table (fetchLearnedOp d s).1.table := by
  unfold fetchLearnedOp
  split
  · exact .refl
  next h rest e =>
    have listed : h ∈ s.table.learned := by simp [e]
    dsimp only
    split
    · exact FlowTable.Move.moves (.damage h (.inr (.inr (.inl listed))))
    · exact FlowTable.Move.moves (.report h listed)

theorem fetchClosedOp_moves : FlowTable.Moves s s.table (fetchClosedOp d s).1.table := by
  unfold fetchClosedOp
  split
  · exact .refl
  next h rest e =>
    have recorded : s.table.Recorded h := .inr (.inr (.inr (by simp [e])))
    split <;> exact FlowTable.Move.moves (.free h recorded)

theorem insertOp_moves (g : s.AtGrant 15#8 d) : FlowTable.Moves s s.table (insertOp d s).1.table := by
  have found := s.table.search_moves (s := s) s.seed (domainOf d) (keyArg d &&& s.domains[domainOf d].mask)
  unfold insertOp
  dsimp only
  split
  · exact .refl
  · split
    next e => rw [e] at found; exact found
    next u e =>
      rw [e] at found
      split
      next quota =>
        split
        next h p =>
          obtain ⟨inTable, free⟩ := FlowTable.placement_inTable p
          refine found.tail (.create h .active _ _ inTable free quota (insertedBody_fresh _ _ _ _) fun c => ?_)
          have checks := c.arguments g
          simp only [checkFor, g.2.2] at checks
          refine insertedBody_inRange c ?_ _
          simp [checkInsert, checkSettings] at checks
          omega
        next => exact found
      next => exact found

theorem findOp_moves : FlowTable.Moves s s.table (findOp d s).1.table := by
  have found := s.table.search_moves (s := s) s.seed (domainOf d) (keyArg d &&& s.domains[domainOf d].mask)
  unfold findOp
  dsimp only
  split
  next e => rw [e] at found; exact found
  next e => rw [e] at found; exact found

theorem queryOp_moves : FlowTable.Moves s s.table (queryOp d s).1.table := by
  unfold queryOp
  dsimp only
  split
  · exact .refl
  next current =>
    have n : (s.table.dir (handleOf d)).state ≠ .free := fun f => current (by simp [DirEntry.stale, f])
    split
    · exact .refl
    · split
      · exact FlowTable.Move.moves (.damage _ (.inl n))
      · exact .refl

end Commands

/-! ### Ranges, counts and the canonical form through the moves -/

/-- Every body of a table is in its ranges. -/
def FlowTable.BodiesInRange (t : FlowTable) : Prop := ∀ h, (t.body h).InRange

/-- A body without a deadline, or with a clamped one, stays in its ranges; so does the hold end. -/
theorem Body.InRange.timers {b : Body} (r : b.InRange) {deadline hold : Option Nat} {reported : Option Bool}
    (d : ∀ w, deadline = some w → w ≤ Config.timeMax) (e : ∀ w, hold = some w → w ≤ Config.timeMax) :
    ({ b with deadline := deadline, holdEnd := hold, reported := reported } : Body).InRange := by
  obtain ⟨lease, tokens, meterTime, created, packets, bytes, exceeds, -, -⟩ := r
  exact ⟨lease, tokens, meterTime, created, packets, bytes, exceeds, d, e⟩

theorem FlowTable.BodiesInRange.of_handle (r : t.BodiesInRange) {b : Body} (own : b.InRange)
    (e : ∀ k, u.body k = if k = h then b else t.body k) : u.BodiesInRange := fun k => by
  rw [e]
  split
  · exact own
  · exact r k

theorem clamped_le (now n : Nat) : ∀ w, some (clampTime now n) = some w → w ≤ Config.timeMax := by
  rintro w ⟨⟩
  exact clampTime_le now n

theorem FlowTable.BodiesInRange.armLease (r : t.BodiesInRange) (h now i : Nat) : (t.armLease h now i).BodiesInRange := by
  refine r.of_handle ((r h).timers ?_ (r h).2.2.2.2.2.2.2.2) (t.body_armLease h · now i)
  split
  · exact clamped_le _ _
  · simp

theorem FlowTable.Move.bodiesInRange (m : t.Move s u) (c : s.Checked) (r : t.BodiesInRange) : u.BodiesInRange := by
  have deadline : ∀ h w, (t.body h).deadline = some w → w ≤ Config.timeMax := fun h => (r h).2.2.2.2.2.2.2.1
  have holdEnd : ∀ h w, (t.body h).holdEnd = some w → w ≤ Config.timeMax := fun h => (r h).2.2.2.2.2.2.2.2
  cases m with
  | damage h => exact r.of_handle ((r h).timers (by simp) (by simp)) (t.body_damage h)
  | free h => exact fun k => by rw [FlowTable.body_free]; exact r k
  | close h why auto =>
    cases auto with
    | true => exact fun k => by rw [FlowTable.close_auto, FlowTable.body_free]; exact r k
    | false => exact r.of_handle ((r h).timers (by simp) (by simp)) (t.body_close h · why)
  | create h x d b _ _ _ _ range => exact r.of_handle (range c) (t.body_create h · x d b)
  | write h f _ _ _ range => exact r.of_handle (range c (r h)) (t.body_modifyBody h · f)
  | refresh h =>
    intro k
    rw [FlowTable.body_refresh]
    split
    · exact (r h).timers (clamped_le _ _) (holdEnd h)
    · exact r k
  | hold h ticks _ some =>
    exact r.of_handle ((r h).timers (by simp) (clamped_le _ _)) (t.body_holdRule h · _ ticks some)
  | release h =>
    refine r.of_handle ((r h).timers ?_ (by simp)) (t.body_release h · _)
    split
    · exact clamped_le _ _
    · exact deadline h
  | relet h i f _ _ _ range =>
    have written : (t.modifyBody h f).BodiesInRange := r.of_handle (range c (r h)) (t.body_modifyBody h · f)
    exact written.armLease h _ i
  | confirm h i f _ _ _ _ range =>
    have active : (t.setDir h { t.dir h with state := .active }).BodiesInRange := fun k => by
      rw [FlowTable.body_setDir]; exact r k
    have written : ((t.setDir h { t.dir h with state := .active }).modifyBody h f).BodiesInRange :=
      active.of_handle (by rw [FlowTable.body_setDir]; exact range c (r h)) (FlowTable.body_modifyBody _ h · f)
    exact written.armLease h _ i
  | report h =>
    exact r.of_handle (h := h) ((r h).timers (reported := some true) (deadline h) (holdEnd h)) fun k => by
      simp [FlowTable.body_modifyBody]

/-- A move raises no count, but that of the domain of a record created below the domain's quota (R44). -/
theorem FlowTable.Move.count_le (m : t.Move s u) (d : Fin 16) : u.count d ≤ t.count d ∨ u.count d ≤ s.domains[d].quota := by
  have freed : ∀ h, (t.free h).count d ≤ t.count d := fun h => by rw [FlowTable.count_free]; split <;> omega
  cases m with
  | damage h => exact .inl (FlowTable.count_congr (by simp) d).le
  | free h => exact .inl (freed h)
  | close h r auto =>
    cases auto with
    | true => exact .inl (freed h)
    | false => exact .inl (FlowTable.count_congr (by simp) d).le
  | create h x d' b _ _ quota =>
    rw [FlowTable.count_create]
    split
    next e => subst e; exact .inr quota
    next => exact .inl le_rfl
  | write h f => exact .inl le_rfl
  | refresh h => exact .inl (FlowTable.count_congr (by simp) d).le
  | hold h ticks => exact .inl (FlowTable.count_congr (by simp) d).le
  | release h => exact .inl (FlowTable.count_congr (by simp) d).le
  | relet h i f => exact .inl (FlowTable.count_congr (by simp) d).le
  | confirm h i f => exact .inl (FlowTable.count_congr (by simp) d).le
  | report h => exact .inl le_rfl

theorem FlowTable.armLease_wf (t : FlowTable) (h now i : Nat) (w : cellsWf Slot.powerOn t.slots) :
    cellsWf Slot.powerOn (t.armLease h now i).slots := by
  unfold FlowTable.armLease
  split
  · exact t.arm_wf h _ w
  · exact t.disarm_wf h w

theorem FlowTable.Move.canonical (m : t.Move s u) (w : cellsWf Slot.powerOn t.slots) : cellsWf Slot.powerOn u.slots := by
  cases m with
  | damage h => exact t.damage_wf h w
  | free h => exact t.free_wf h w
  | close h r auto => exact t.close_wf h r auto w
  | create h x d b => exact t.create_wf h x d b w
  | write h f => exact t.modifyBody_wf h f w
  | refresh h => exact t.refresh_wf h _ w
  | hold h ticks => exact t.holdRule_wf h _ ticks w
  | release h => exact t.release_wf h _ w
  | relet h i f => exact FlowTable.armLease_wf _ h _ i (t.modifyBody_wf h f w)
  | confirm h i f => exact FlowTable.armLease_wf _ h _ i (FlowTable.modifyBody_wf _ h f (t.setDir_wf h _ w))
  | report h => exact FlowTable.modifyBody_wf _ h _ w

theorem FlowTable.Moves.bodiesInRange (m : FlowTable.Moves s t u) (c : s.Checked) (r : t.BodiesInRange) :
    u.BodiesInRange := by
  induction m with
  | refl => exact r
  | tail _ move ih => exact move.bodiesInRange c ih

theorem FlowTable.Moves.count_le (m : FlowTable.Moves s t u) (d : Fin 16) (q : t.count d ≤ s.domains[d].quota) :
    u.count d ≤ s.domains[d].quota := by
  induction m with
  | refl => exact q
  | tail _ move ih => exact (move.count_le d).elim (fun e => e.trans ih) id

theorem FlowTable.Moves.canonical (m : FlowTable.Moves s t u) (w : cellsWf Slot.powerOn t.slots) :
    cellsWf Slot.powerOn u.slots := by
  induction m with
  | refl => exact w
  | tail _ move ih => exact move.canonical ih

end Sys2Proof.Machine
end

section
/-! PROOF. What a command can do, said once: the shapes of the state after it, with what the model tests before. Every law
that each step keeps is proved by cases on these shapes. -/

namespace Sys2Proof.Machine

variable {s t : State} {i : Instr}

/-! ### The shapes -/

/-- The state after a power-on reset (R141). -/
def State.poweredOn (s : State) : State :=
  { State.reset with
    chans := s.chans.map (fun ch => { Channel.powerOn with lane := ch.lane })
    freeCount := s.freeCount
    pending := s.pending }

/-- The state after the end of the initialisation pass (R3, R141). -/
def State.initialised (s : State) : State :=
  { s with table := FlowTable.initial, port := { s.port with ready := true } }.latch readyBit

/-- The state after the end of a position that counts, before the walk goes on (R169). -/
def State.movedOn (s : State) (v m a : Nat) : State :=
  { s.endOp with sweep := { s.sweep with
    cursor := s.sweep.cursor + 1
    visited := s.sweep.visited + v
    matched := s.sweep.matched + m
    acted := s.sweep.acted + a } }

/-- The state after SET_DOMAIN has written its entry (R45). -/
def State.domainWritten (s : State) (d : Descriptor) : State :=
  { s with domains := s.domains.set (domainOf d).val (s.domains[domainOf d].withFields d) (domainOf d).isLt }

/-- What an operation of a requester hands back (R79, R108, R147, R169). -/
def Requester.Answers : Requester → OpOutcome → Prop
  | .lc _, o => ∃ r, o = .response r
  | .cp, o => ∃ st r, o = .completion st r
  | .su, o => ∃ v m a, o = .position v m a
  | .lt, o => o = .timer

/-- What a command does once it is taken: it waits for its table operation, completes, or acts on another block (R147). -/
inductive Carried (i : Instr) (d : Descriptor) (x : State) : State → Prop
  | presented (checks : checkFor d = true) : Carried i d x (x.presentCommand d)
  | completed (st : Status) (r : Results) : Carried i d x (x.complete d st r)
  | profileSet (checks : checkSetProfile d = true) : Carried i d x (setProfileAct d x)
  | tickSet (checks : checkSetTick d = true) : Carried i d x (setTickAct d x)
  | timeSet (row : i = .setTime) (checks : checkSetTime d = true) : Carried i d x (setTimeAct d x)
  | channelOpened : Carried i d x (openChannel d x)
  | channelClosed : Carried i d x (closeChannel d x)
  | channelReset : Carried i d x (resetChannel d x)
  | sweepAccepted : Carried i d x (sweepAccept d x)
  | sweepSuspended : Carried i d x (sweepSuspendAct d x)
  | sweepResumed : Carried i d x (sweepResumeAct d x)
  | sweepAborted (kind : kindOf d = 23#8) : Carried i d x (sweepAbortAct d x)

/-- What a command can do to a state. -/
inductive Effect (i : Instr) (s : State) : State → Prop
  | kept : Effect i s s
  | poweredOn (row : i = .powerOnReset) : Effect i s s.poweredOn
  | initialised : Effect i s s.initialised
  | ticked (row : i = .tick) (n : Nat) : Effect i s { s with timer := s.timer.periods n }
  | presentedDue : Effect i s s.presentDue
  | requested (c : Fin 4) (tag : Byte) (body : RequestBody) : Effect i s (s.requestArrives c tag body)
  | faulted (c : Fin 4) (why : FaultReason) (serving : (s.chan c).serving = true) : Effect i s (s.faultChannel c why)
  | granted (r : Requester) (u : FlowTable) (o : OpOutcome) (n : Nat) (next : s.nextGrant = some r) (answers : r.Answers o)
      (moves : FlowTable.Moves s s.table u) : Effect i s (({ s with freeCount := n } : State).grant r u o)
  | seedGranted (seed : BitVec 11) (st : Status) (r : Results) (next : s.nextGrant = some .cp) :
      Effect i s (({ s with seed := seed } : State).grant .cp s.table (.completion st r))
  | domainGranted (d : Descriptor) (st : Status) (r : Results) (granted : s.AtGrant 2#8 d)
      (quota : ¬ (domainSelects d 8 = true ∧ fieldAt d 14 2 < s.table.count (domainOf d))) :
      Effect i s ((s.domainWritten d).grant .cp s.table (.completion st r))
  | answered (c : Fin 4) (before : FlowTable) (r : ServiceResult)
      (op : s.opAtTable = some { requester := .lc c, before := before, abandoned := false, outcome := .response r }) :
      Effect i s ((s.endOp.setChan c ((s.chan c).answerHead r)).serve c)
  | discarded (c : Fin 4) (before : FlowTable) (r : ServiceResult)
      (op : s.opAtTable = some { requester := .lc c, before := before, abandoned := true, outcome := .response r }) :
      Effect i s (s.endOp.serve c)
  | commandDropped (before : FlowTable) (abandoned : Bool) (st : Status) (r : Results)
      (op : s.opAtTable = some { requester := .cp, before := before, abandoned := abandoned, outcome := .completion st r }) :
      Effect i s s.endOp
  | commandCompleted (before : FlowTable) (st : Status) (r : Results) (e : Execution)
      (op : s.opAtTable = some { requester := .cp, before := before, abandoned := false, outcome := .completion st r })
      (inExec : s.inExec = some e) : Effect i s (s.endOp.complete e.desc st r)
  | timerEnded (atTable : s.atTable .lt = true) : Effect i s s.endOp.presentDue
  | positionEnded (before : FlowTable) (v m a : Nat)
      (op : s.opAtTable = some { requester := .su, before := before, abandoned := false, outcome := .position v m a }) :
      Effect i s (s.movedOn v m a).afterPosition
  | positionRestarted (before : FlowTable) (v m a : Nat)
      (op : s.opAtTable = some { requester := .su, before := before, abandoned := true, outcome := .position v m a })
      (walking : s.sweep.state.walking = true) : Effect i s s.endOp.presentPosition
  | positionDropped (before : FlowTable) (v m a : Nat)
      (op : s.opAtTable = some { requester := .su, before := before, abandoned := true, outcome := .position v m a })
      (walking : s.sweep.state.walking = false) : Effect i s s.endOp
  | took (can : CanTakeNow s) (t : State) (carried : Carried i s.nextDescriptor s.taken t) : Effect i s t
  | producerWritten (v : Word) : Effect i s (s.writeCmdProducer v)
  | consumerWritten (v : Word) : Effect i s (s.writeCplConsumer v)
  | causesCleared (v : Word) : Effect i s (s.unlatch v)
  | enablesWritten (v : Word) : Effect i s (s.writeEnables v)
  | runWritten (run : Bool) : Effect i s { s with port := { s.port with run := run } }
  | portReset (run : Bool) : Effect i s ({ s with port := { s.port with run := run } } : State).portReset
  | slotWritten (o : Nat) (v : Word) :
      Effect i s { s with port := { s.port with window := storeLE s.port.window o 4 v.toNat } }
  | timeRead : Effect i s s.timeLowRead
  | struck (h : Nat) (inTable : h < Config.slots) :
      Effect i s { s with table := s.table.setSlot h { s.table.slot h with bad := true } }

/-! ### Takes -/

theorem State.take_effect {isRow : Descriptor → Bool} {act : Descriptor → State → State}
    (own : isRow s.nextDescriptor = true → Carried i s.nextDescriptor s.taken (act s.nextDescriptor s.taken)) :
    Effect i s (s.take isRow act) := by
  rcases State.take_cases (s := s) isRow act with e | ⟨can, row, e⟩
  · rw [e]; exact .kept
  · rw [e]; exact .took can _ (own row)

/-- The take of a command that is checked first: it is refused, or acts. -/
theorem State.take_checked_effect {isRow check : Descriptor → Bool} {refused : Descriptor → State → Results}
    {act : Descriptor → State → State}
    (own : isRow s.nextDescriptor = true → check s.nextDescriptor = true →
      Carried i s.nextDescriptor s.taken (act s.nextDescriptor s.taken)) :
    Effect i s (s.take isRow (checked check refused act)) :=
  State.take_effect fun row => by
    rcases checked_cases (s := s.taken) check refused act s.nextDescriptor with ⟨checks, e⟩ | ⟨-, e⟩
    · rw [e]; exact own row checks
    · rw [e]; exact .completed _ _

theorem State.takeForTable_effect {kind : Byte} {check : Descriptor → Bool} {refused : Descriptor → State → Results}
    (agrees : ∀ d, kindOf d = kind → checkFor d = check d) : Effect i s (s.takeForTable kind check refused) :=
  State.take_checked_effect fun row checks =>
    .presented ((agrees _ (by simpa [ofKind] using row)).trans checks)

/-! ### Grants -/

/-- A state differs from another in the table and the counter of free values alone. -/
def State.OnlyTable (s x : State) : Prop := ∃ n, { x with table := s.table } = { s with freeCount := n }

theorem State.OnlyTable.of_table (u : FlowTable) : s.OnlyTable { s with table := u } := ⟨s.freeCount, rfl⟩

theorem State.OnlyTable.refl (s : State) : s.OnlyTable s := ⟨s.freeCount, rfl⟩

section Operations
variable {d : Descriptor}

theorem onReference_onlyTable {admits : RecState → Bool} {act : Descriptor → State → State × Status × Results}
    (own : s.OnlyTable (act d s).1) : s.OnlyTable (onReference admits act d s).1 := by
  rcases onReference_cases (s := s) admits act d with e | ⟨e, -⟩ | ⟨e, -⟩
  · rw [e]; exact .refl s
  · rw [e]; exact .of_table _
  · rw [e]; exact own

theorem fetchLearnedOp_onlyTable : s.OnlyTable (fetchLearnedOp d s).1 := by
  unfold fetchLearnedOp
  split
  · exact .refl s
  · dsimp only
    split <;> exact .of_table _

theorem fetchClosedOp_onlyTable : s.OnlyTable (fetchClosedOp d s).1 := by
  unfold fetchClosedOp
  split
  · exact .refl s
  · split
    · exact ⟨s.freeCount + 1, rfl⟩
    · exact .of_table _

theorem insertOp_onlyTable : s.OnlyTable (insertOp d s).1 := by
  unfold insertOp
  dsimp only
  split
  · exact .refl s
  · split
    · exact .of_table _
    · split
      · split <;> exact .of_table _
      · exact .of_table _

theorem findOp_onlyTable : s.OnlyTable (findOp d s).1 := by
  unfold findOp
  dsimp only
  split <;> exact .of_table _

theorem queryOp_onlyTable : s.OnlyTable (queryOp d s).1 := by
  unfold queryOp
  dsimp only
  split_ifs
  · exact .refl s
  · exact .refl s
  · exact .of_table _
  · exact .refl s

end Operations

/-- The grant of a command's operation that writes the table alone. -/
theorem State.commandOperation_effect {kind : Byte} {op : Descriptor → State → State × Status × Results}
    (only : ∀ d, s.OnlyTable (op d s).1)
    (moves : ∀ d, s.AtGrant kind d → FlowTable.Moves s s.table (op d s).1.table) :
    Effect i s (s.commandOperation kind op) := by
  rcases State.commandOperation_cases (s := s) kind op with e | ⟨d, g⟩
  · rw [e]; exact .kept
  · obtain ⟨n, e⟩ := only d
    rw [State.commandOperation_eq g, e]
    exact .granted .cp _ _ n g.1 ⟨_, _, rfl⟩ (moves d g)

/-- The grant of a command on a reference. -/
theorem State.commandOperation_onReference_effect {kind : Byte} {admits : RecState → Bool}
    {act : Descriptor → State → State × Status × Results} (only : ∀ d, s.OnlyTable (act d s).1)
    (own : ∀ d, s.AtGrant kind d → (s.table.dir (handleOf d)).state ≠ .free →
      admits (s.table.dir (handleOf d)).state = true → FlowTable.Moves s s.table (act d s).1.table) :
    Effect i s (s.commandOperation kind (onReference admits act)) :=
  State.commandOperation_effect (fun d => onReference_onlyTable (only d)) fun d g => onReference_moves (own d g)

theorem execSetSeedOperation_effect (e : execSetSeedOperation s = .next t) : Effect i s t := by
  cases e
  rcases State.commandOperation_cases (s := s) 1#8 setSeedOp with e | ⟨d, g⟩
  · rw [e]; exact .kept
  · rw [State.commandOperation_eq g]
    unfold setSeedOp
    dsimp only
    split
    · exact .seedGranted _ _ _ g.1
    · exact .seedGranted s.seed _ _ g.1

theorem execSetDomainOperation_effect (e : execSetDomainOperation s = .next t) : Effect i s t := by
  cases e
  rcases State.commandOperation_cases (s := s) 2#8 setDomainOp with e | ⟨d, g⟩
  · rw [e]; exact .kept
  · rw [State.commandOperation_eq g]
    unfold setDomainOp
    dsimp only
    split
    · exact .seedGranted s.seed _ _ g.1
    · split
      · exact .seedGranted s.seed _ _ g.1
      next quota => exact .domainGranted d _ _ g quota

theorem execLookup_effect (e : execLookup s = .next t) : Effect i s t := by
  unfold execLookup at e
  split at e <;> cases e
  next c domain flag length key request =>
    exact .granted (.lc c) _ _ s.freeCount (State.grantedRequest_some request).1 ⟨_, rfl⟩
      (s.lookupOp_moves c _ _ (by omega) key)
  next => exact .kept

theorem execPeek_effect (e : execPeek s = .next t) : Effect i s t := by
  unfold execPeek at e
  split at e <;> cases e
  next c domain key request =>
    exact .granted (.lc c) _ _ s.freeCount (State.grantedRequest_some request).1 ⟨_, rfl⟩ (s.peekOp_moves _ key)
  next => exact .kept

theorem execHoldRequest_effect (e : execHoldRequest s = .next t) : Effect i s t := by
  unfold execHoldRequest at e
  split at e <;> cases e
  next c handle generation ticks request =>
    exact .granted (.lc c) _ _ s.freeCount (State.grantedRequest_some request).1 ⟨_, rfl⟩ (s.holdOp_moves _ _ _)
  next => exact .kept

theorem execExpiry_effect (e : execExpiry s = .next t) : Effect i s t := by
  unfold execExpiry at e
  split at e <;> cases e
  next h next _ => exact .granted .lt _ _ s.freeCount next rfl (s.expiryOp_moves h)
  next => exact .kept

theorem execHoldEnd_effect (e : execHoldEnd s = .next t) : Effect i s t := by
  unfold execHoldEnd at e
  split at e <;> cases e
  next h next _ => exact .granted .lt _ _ s.freeCount next rfl (s.holdEndOp_moves h)
  next => exact .kept

theorem execSweepPosition_effect (e : execSweepPosition s = .next t) : Effect i s t := by
  unfold execSweepPosition at e
  split at e <;> cases e
  next next => exact .granted .su _ _ s.freeCount next ⟨_, _, _, rfl⟩ s.positionOp_moves
  next => exact .kept

/-! ### The ends of operations -/

theorem execChannelOperationEnd_effect (e : execChannelOperationEnd s = .next t) : Effect i s t := by
  unfold execChannelOperationEnd at e
  split at e
  next c before abandoned r op =>
    cases abandoned with
    | true => cases e; exact .discarded c before r op
    | false => cases e; exact .answered c before r op
  next => cases e; exact .kept

theorem execCommandOperationEnd_effect (e : execCommandOperationEnd s = .next t) : Effect i s t := by
  unfold execCommandOperationEnd at e
  split at e
  next before abandoned st r op =>
    cases abandoned with
    | true => cases e; exact .commandDropped before true st r op
    | false =>
      simp only [Bool.false_eq_true, if_false] at e
      split at e
      next x inExec => cases e; exact .commandCompleted before st r x op inExec
      next => cases e; exact .commandDropped before false st r op
  next => cases e; exact .kept

theorem execSweepPositionEnd_effect (e : execSweepPositionEnd s = .next t) : Effect i s t := by
  unfold execSweepPositionEnd at e
  split at e
  next before abandoned v m a op =>
    cases abandoned with
    | true =>
      cases e
      split
      next walking => exact .positionRestarted before v m a op walking
      next walking => exact .positionDropped before v m a op (by simpa using walking)
    | false => cases e; exact .positionEnded before v m a op
  next => cases e; exact .kept

/-! ### Arrivals and window writes -/

theorem State.frameArrives_effect (c : Fin 4) (f : List Byte) : Effect i s (s.frameArrives c f) := by
  unfold State.frameArrives
  split
  · split
    next serving => exact .faulted c _ serving
    next => exact .kept
  · exact .requested c _ _

theorem State.writeControl_effect (v : Word) : Effect i s (s.writeControl v) := by
  unfold State.writeControl
  dsimp only
  split
  · exact .portReset _
  · exact .runWritten _

theorem State.writeWord_effect (o : BitVec 12) (v : Word) : Effect i s (s.writeWord o v) := by
  unfold State.writeWord
  dsimp only
  split_ifs
  · exact State.writeControl_effect v
  · exact .causesCleared v
  · exact .enablesWritten v
  · exact .producerWritten v
  · exact .consumerWritten v
  · exact .slotWritten _ v
  · exact .kept

/-! ### Every command -/

/-- Every command has one of the effects. -/
theorem exec_effect (e : exec i s = .next t) : Effect i s t := by
  cases i with
  | powerOnReset => cases e; exact .poweredOn rfl
  | initPassEnd =>
    cases e
    split
    · exact .kept
    · exact .initialised
  | tick => cases e; exact .ticked rfl _
  | deadlineDue | holdEndDue =>
    cases e
    split
    · exact .presentedDue
    · exact .kept
  | lookupFrameArrival c tag domain flag length key => cases e; exact .requested c tag _
  | peekFrameArrival c tag domain key => cases e; exact .requested c tag _
  | holdFrameArrival c tag handle generation ticks => cases e; exact .requested c tag _
  | badFrameArrival c f => cases e; exact State.frameArrives_effect c f
  | lookup => exact execLookup_effect e
  | peek => exact execPeek_effect e
  | holdRequest => exact execHoldRequest_effect e
  | expiry => exact execExpiry_effect e
  | holdEnd => exact execHoldEnd_effect e
  | sweepPosition => exact execSweepPosition_effect e
  | channelOperationEnd => exact execChannelOperationEnd_effect e
  | commandOperationEnd => exact execCommandOperationEnd_effect e
  | ltOperationEnd =>
    cases e
    split
    next atTable => exact .timerEnded atTable
    next => exact .kept
  | sweepPositionEnd => exact execSweepPositionEnd_effect e
  | setSeed | setDomain | hold | fetchLearned | confirm | reject | retire | fetchClosed | insert | find | query | modify
  | collect => cases e; exact State.takeForTable_effect fun d k => by simp [checkFor, k, checkNothing]
  | queryDomain => cases e; exact State.take_checked_effect fun _ _ => .completed _ _
  | setProfile => cases e; exact State.take_checked_effect fun _ checks => .profileSet checks
  | queryProfile => cases e; exact State.take_checked_effect fun _ _ => .completed _ _
  | channelControlOpen => cases e; exact State.take_checked_effect fun _ _ => .channelOpened
  | channelControlClose => cases e; exact State.take_checked_effect fun _ _ => .channelClosed
  | channelControlReset => cases e; exact State.take_checked_effect fun _ _ => .channelReset
  | setTick => cases e; exact State.take_checked_effect fun _ checks => .tickSet checks
  | setTime => cases e; exact State.take_checked_effect fun _ checks => .timeSet rfl checks
  | sweep => cases e; exact State.take_checked_effect fun _ _ => .sweepAccepted
  | sweepSuspend => cases e; exact State.take_effect fun _ => .sweepSuspended
  | sweepResume => cases e; exact State.take_effect fun _ => .sweepResumed
  | sweepAbort => cases e; exact State.take_effect fun row => .sweepAborted (by simpa [ofKind] using row)
  | unknownCommand => cases e; exact State.take_effect fun _ => .completed _ _
  | setSeedOperation => exact execSetSeedOperation_effect e
  | setDomainOperation => exact execSetDomainOperation_effect e
  | holdCommandOperation =>
    cases e
    exact State.commandOperation_onReference_effect (fun _ => .of_table _) fun _ _ _ a =>
      holdAct_moves (live_of_activeOrHeld a)
  | fetchLearnedOperation =>
    cases e; exact State.commandOperation_effect (fun _ => fetchLearnedOp_onlyTable) fun _ _ => fetchLearnedOp_moves
  | confirmOperation =>
    cases e
    exact State.commandOperation_onReference_effect (fun _ => .of_table _) fun _ g _ a =>
      confirmAct_moves g (provisional_of_onlyProvisional a)
  | rejectOperation =>
    cases e
    exact State.commandOperation_onReference_effect (fun _ => .of_table _) fun _ _ n _ => rejectAct_moves n
  | retireOperation =>
    cases e
    exact State.commandOperation_onReference_effect (fun _ => .of_table _) fun _ _ _ a =>
      retireAct_moves (live_of_activeOrHeld a)
  | fetchClosedOperation =>
    cases e; exact State.commandOperation_effect (fun _ => fetchClosedOp_onlyTable) fun _ _ => fetchClosedOp_moves
  | insertOperation =>
    cases e; exact State.commandOperation_effect (fun _ => insertOp_onlyTable) fun _ g => insertOp_moves g
  | findOperation => cases e; exact State.commandOperation_effect (fun _ => findOp_onlyTable) fun _ _ => findOp_moves
  | queryOperation => cases e; exact State.commandOperation_effect (fun _ => queryOp_onlyTable) fun _ _ => queryOp_moves
  | modifyOperation =>
    cases e
    exact State.commandOperation_onReference_effect (fun _ => .of_table _) fun _ g _ a =>
      modifyAct_moves g (live_of_activeOrHeld a)
  | collectOperation =>
    cases e
    exact State.commandOperation_onReference_effect (fun _ => .of_table _) fun _ _ n _ => collectAct_moves n
  | cmdProducerWrite v => cases e; exact .producerWritten v
  | cplConsumerWrite v => cases e; exact .consumerWritten v
  | causeWrite v => cases e; exact .causesCleared v
  | causeEnableWrite v => cases e; exact .enablesWritten v
  | runEnableWrite v => cases e; exact State.writeControl_effect v
  | portReset v => cases e; exact State.writeControl_effect v
  | timeLowRead => cases e; exact .timeRead
  | windowWrite o v => cases e; exact State.writeWord_effect o v
  | uncorrectableError h =>
    cases e
    split
    next inTable => exact .struck h inTable
    next => exact .kept

/-- A law of the state that a clock period keeps and every effect of a command keeps is kept by every step. -/
theorem step_keeps {P : State → Prop} (rest : ∀ x l, P x → P { x with pending := l }) (period : P s → P s.clockPeriod)
    (effect : ∀ i x t, P x → Effect i x t → P t) (e : step s = .next t) (p : P s) : P t := by
  rcases step_cases e with ⟨-, rfl⟩ | ⟨i, l, -, e⟩
  · exact period p
  · exact effect i _ t (rest s l p) (exec_effect e)

end Sys2Proof.Machine
end

section
/-! PROOF. What no effect but a grant, a reset and a storage event does to the flow table, and the law of the flow table over
every step. -/

namespace Sys2Proof.Machine

variable {s t x : State} {i : Instr} {d : Descriptor} {h : Nat}

theorem setProfileAct_table : (setProfileAct d x).table = x.table := rfl

theorem setTickAct_table : (setTickAct d x).table = x.table := rfl

theorem Carried.table (c : Carried i d x t) : t.table = x.table := by
  cases c with
  | presented | completed => rfl
  | profileSet => exact setProfileAct_table
  | tickSet => exact setTickAct_table
  | timeSet => exact setTimeAct_table d x
  | channelOpened => exact openChannel_table d x
  | channelClosed => exact closeChannel_table d x
  | channelReset => exact resetChannel_table d x
  | sweepAccepted => exact sweepAccept_table d x
  | sweepSuspended => exact sweepSuspendAct_table d x
  | sweepResumed => exact sweepResumeAct_table d x
  | sweepAborted => exact sweepAbortAct_table d x

/-- An error put into a slot of the part keeps the law of the table: the slot still holds the same record (R33). -/
theorem FlowTable.Inv.struck {u : FlowTable} (inv : u.Inv) (inTable : h < Config.slots) :
    (u.setSlot h { u.slot h with bad := true }).Inv := by
  have dir : ∀ k, (u.setSlot h { u.slot h with bad := true }).dir k = u.dir k := by
    intro k; simp only [FlowTable.dir, FlowTable.slot_setSlot]; split <;> simp_all
  have body : ∀ k, (u.setSlot h { u.slot h with bad := true }).body k = u.body k := by
    intro k; simp only [FlowTable.body, FlowTable.slot_setSlot]; split <;> simp_all
  have same : ∀ k, u.HandleLaw k → (u.setSlot h { u.slot h with bad := true }).HandleLaw k :=
    fun k law => law.of_same (dir k) (body k) .rfl .rfl rfl rfl
  exact inv.of_handle h (fun store => store.rewrite inTable fun _ => rfl) (fun lists _ => ⟨lists.closed, lists.learned, lists.expiryQ, lists.holdQ⟩) (same h) fun k _ => same k

@[simp] theorem State.portReset_table : s.portReset.table = s.table := rfl

@[simp] theorem State.movedOn_table (v m a : Nat) : (s.movedOn v m a).table = s.table := rfl

@[simp] theorem State.domainWritten_table : (s.domainWritten d).table = s.table := rfl

/-- How the table stands after an effect: as before, empty, moved by an operation, or with one stored body in error. -/
theorem Effect.table_cases (e : Effect i s t) : t.table = s.table ∨ t.table = FlowTable.initial
    ∨ FlowTable.Moves s s.table t.table
    ∨ ∃ h, h < Config.slots ∧ t.table = s.table.setSlot h { s.table.slot h with bad := true } := by
  cases e with
  | poweredOn | initialised => exact .inr (.inl rfl)
  | granted r u o n next answers moves => exact .inr (.inr (.inl (by simpa using moves)))
  | struck h inTable => exact .inr (.inr (.inr ⟨h, inTable, rfl⟩))
  | took can t carried => exact .inl carried.table
  | kept | ticked | causesCleared | enablesWritten | runWritten | slotWritten | timeRead | seedGranted | domainGranted
  | commandDropped | positionDropped | commandCompleted => exact .inl rfl
  | presentedDue | requested | faulted | answered | discarded | timerEnded | positionEnded | positionRestarted
  | producerWritten | consumerWritten | portReset => exact .inl (by simp)

@[simp] theorem FlowTable.dir_initial (k : Nat) : FlowTable.initial.dir k = Slot.powerOn.dir := rfl

theorem FlowTable.Inv.initial : FlowTable.initial.Inv := by
  refine FlowTable.inv_iff.mpr ⟨⟨⟨.nil, (fun p m => nomatch m)⟩, (fun p m => nomatch m), fun d => ?_⟩,
    ⟨.nil, .nil, ⟨.nil, .nil⟩, ⟨.nil, .nil⟩⟩, fun k => ?_⟩
  · simp [FlowTable.count, FlowTable.initial]
  · constructor <;> simp [Slot.powerOn] <;> simp [FlowTable.initial, queueTime]

/-- The law of the flow table after an effect. -/
theorem Effect.table_inv (e : Effect i s t) (inv : s.table.Inv) : t.table.Inv := by
  rcases e.table_cases with e | e | moves | ⟨h, inTable, e⟩
  · rw [e]; exact inv
  · rw [e]; exact .initial
  · exact moves.inv inv
  · rw [e]; exact inv.struck inTable

/-- Settles O7: every effect keeps the law of the table, an operation because it is a sequence of moves that each keep it. -/
theorem everyStepKeepsTheTableLaw : Obligations.EveryStepKeepsTheTableLaw := by
  unfold Obligations.EveryStepKeepsTheTableLaw
  intro s t inv e
  exact step_keeps (P := fun s => s.table.Inv) (fun _ _ p => p) id (fun i x t p e => e.table_inv p) e inv

end Sys2Proof.Machine
end

section
/-! PROOF. The side of the table (seed, settings, table, timer, the arbiter's place): which effects leave it alone, and what
the others make of it. -/

namespace Sys2Proof.Machine

/-- What the commands that work on the port, a channel or the walk leave alone. -/
structure TableSide where
  seed : BitVec 11
  domains : Vector DomainEntry 16
  profiles : Vector Profile 64
  table : FlowTable
  lastGranted : Requester
  timer : Timer
  freeCount : Nat
  pending : List Instr

/-- The side of the table in a state. -/
def State.tableSide (s : State) : TableSide :=
  ⟨s.seed, s.domains, s.profiles, s.table, s.lastGranted, s.timer, s.freeCount, s.pending⟩

variable {s t x : State} {i : Instr} {d : Descriptor}

@[simp] theorem State.setChan_tableSide (c : Fin 4) (ch : Channel) : (s.setChan c ch).tableSide = s.tableSide := rfl

@[simp] theorem State.latch_tableSide (b : Word) : (s.latch b).tableSide = s.tableSide := rfl

@[simp] theorem State.unlatch_tableSide (b : Word) : (s.unlatch b).tableSide = s.tableSide := rfl

@[simp] theorem State.endOp_tableSide : s.endOp.tableSide = s.tableSide := rfl

@[simp] theorem State.taken_tableSide : s.taken.tableSide = s.tableSide := rfl

@[simp] theorem State.presentCommand_tableSide : (s.presentCommand d).tableSide = s.tableSide := rfl

@[simp] theorem State.complete_tableSide (st : Status) (r : Results) : (s.complete d st r).tableSide = s.tableSide := rfl

@[simp] theorem State.completeControl_tableSide (st : Status) : (s.completeControl d st).tableSide = s.tableSide := rfl

@[simp] theorem State.completeSweep_tableSide (st : Status) : (s.completeSweep d st).tableSide = s.tableSide := rfl

@[simp] theorem State.setSweepState_tableSide (w : SweepState) : (s.setSweepState w).tableSide = s.tableSide := rfl

@[simp] theorem State.movedOn_tableSide (v m a : Nat) : (s.movedOn v m a).tableSide = s.tableSide := rfl

@[simp] theorem State.portReset_tableSide : s.portReset.tableSide = s.tableSide := rfl

@[simp] theorem State.writeEnables_tableSide (v : Word) : (s.writeEnables v).tableSide = s.tableSide := rfl

@[simp] theorem State.timeLowRead_tableSide : s.timeLowRead.tableSide = s.tableSide := rfl

@[simp] theorem State.abandon_tableSide (r : Requester) : (s.abandon r).tableSide = s.tableSide := by simp [State.tableSide]

@[simp] theorem State.endClose_tableSide (c : Fin 4) (st : Status) : (s.endClose c st).tableSide = s.tableSide := by
  simp [State.tableSide]

@[simp] theorem State.endSweep_tableSide (st : Status) : (s.endSweep st).tableSide = s.tableSide := by simp [State.tableSide]

@[simp] theorem State.endSuspend_tableSide (st : Status) : (s.endSuspend st).tableSide = s.tableSide := by
  simp [State.tableSide]

@[simp] theorem State.presentPosition_tableSide : s.presentPosition.tableSide = s.tableSide := by simp [State.tableSide]

@[simp] theorem State.endAbort_tableSide : s.endAbort.tableSide = s.tableSide := by
  unfold State.endAbort
  split <;> rfl

@[simp] theorem State.endDrain_tableSide (c : Fin 4) : (s.endDrain c).tableSide = s.tableSide := by simp [State.endDrain]

@[simp] theorem State.serve_tableSide (c : Fin 4) : (s.serve c).tableSide = s.tableSide := by
  unfold State.serve
  dsimp only
  split_ifs <;> simp

@[simp] theorem State.faultChannel_tableSide (c : Fin 4) (why : FaultReason) :
    (s.faultChannel c why).tableSide = s.tableSide := by simp [State.faultChannel]

@[simp] theorem State.requestArrives_tableSide (c : Fin 4) (tag : Byte) (body : RequestBody) :
    (s.requestArrives c tag body).tableSide = s.tableSide := by
  unfold State.requestArrives
  dsimp only
  split
  · simp
  · rfl
  · split_ifs <;> simp
  · split_ifs <;> simp

@[simp] theorem State.afterPosition_tableSide : s.afterPosition.tableSide = s.tableSide := by
  unfold State.afterPosition
  split
  · split_ifs <;> simp
  · split_ifs <;> simp
  · simp
  · rfl
  · rfl

@[simp] theorem State.writeCmdProducer_tableSide (v : Word) : (s.writeCmdProducer v).tableSide = s.tableSide := by
  unfold State.writeCmdProducer
  dsimp only
  split <;> rfl

@[simp] theorem State.writeCplConsumer_tableSide (v : Word) : (s.writeCplConsumer v).tableSide = s.tableSide := by
  unfold State.writeCplConsumer
  split <;> rfl

/-! ### The effects on the side of the table -/

/-- The effects that are not without one on the side of the table. -/
inductive Setting (i : Instr) (s : State) : State → Prop
  | poweredOn (row : i = .powerOnReset) : Setting i s s.poweredOn
  | initialised : Setting i s s.initialised
  | ticked (row : i = .tick) (n : Nat) : Setting i s { s with timer := s.timer.periods n }
  | presentedDue (x : State) (same : x.tableSide = s.tableSide) : Setting i s x.presentDue
  | granted (r : Requester) (u : FlowTable) (o : OpOutcome) (n : Nat) (next : s.nextGrant = some r)
      (moves : FlowTable.Moves s s.table u) : Setting i s (({ s with freeCount := n } : State).grant r u o)
  | seedGranted (seed : BitVec 11) (st : Status) (r : Results) (next : s.nextGrant = some .cp) :
      Setting i s (({ s with seed := seed } : State).grant .cp s.table (.completion st r))
  | domainGranted (d : Descriptor) (st : Status) (r : Results) (granted : s.AtGrant 2#8 d)
      (quota : ¬ (domainSelects d 8 = true ∧ fieldAt d 14 2 < s.table.count (domainOf d))) :
      Setting i s ((s.domainWritten d).grant .cp s.table (.completion st r))
  | profileSet (d : Descriptor) (checks : checkSetProfile d = true) : Setting i s (setProfileAct d s.taken)
  | tickSet (d : Descriptor) (checks : checkSetTick d = true) : Setting i s (setTickAct d s.taken)
  | timeSet (row : i = .setTime) (d : Descriptor) (checks : checkSetTime d = true) : Setting i s (setTimeAct d s.taken)
  | struck (h : Nat) (inTable : h < Config.slots) :
      Setting i s { s with table := s.table.setSlot h { s.table.slot h with bad := true } }

theorem Carried.tableSide (c : Carried i s.nextDescriptor s.taken t) : t.tableSide = s.tableSide ∨ Setting i s t := by
  cases c with
  | presented | completed => exact .inl rfl
  | profileSet checks => exact .inr (.profileSet _ checks)
  | tickSet checks => exact .inr (.tickSet _ checks)
  | timeSet row checks => exact .inr (.timeSet row _ checks)
  | channelOpened => left; unfold openChannel; dsimp only; split <;> simp
  | channelClosed =>
    left; unfold closeChannel; dsimp only
    split
    · split <;> rfl
    all_goals rfl
  | channelReset => left; simp [resetChannel]
  | sweepAccepted =>
    left; unfold sweepAccept
    split
    · exact State.presentPosition_tableSide
    all_goals rfl
  | sweepSuspended => left; unfold sweepSuspendAct; split <;> rfl
  | sweepResumed => left; unfold sweepResumeAct; split <;> simp
  | sweepAborted =>
    left; unfold sweepAbortAct
    split
    · rfl
    · rfl
    · simp
    · rfl
    · rfl

/-- Every effect leaves the side of the table alone, or is one of those that do not. -/
theorem Effect.tableSide (e : Effect i s t) : t.tableSide = s.tableSide ∨ Setting i s t := by
  cases e with
  | poweredOn row => exact .inr (.poweredOn row)
  | initialised => exact .inr .initialised
  | ticked row n => exact .inr (.ticked row n)
  | presentedDue => exact .inr (.presentedDue s rfl)
  | timerEnded => exact .inr (.presentedDue s.endOp rfl)
  | granted r u o n next _ moves => exact .inr (.granted r u o n next moves)
  | seedGranted seed st r next => exact .inr (.seedGranted seed st r next)
  | domainGranted d st r granted quota => exact .inr (.domainGranted d st r granted quota)
  | struck h inTable => exact .inr (.struck h inTable)
  | took _ _ carried => exact carried.tableSide
  | kept | causesCleared | enablesWritten | runWritten | slotWritten | timeRead | commandDropped | positionDropped
  | commandCompleted | portReset => exact .inl rfl
  | requested | faulted | answered | discarded | positionEnded | positionRestarted | producerWritten | consumerWritten =>
    exact .inl (by simp)

/-! ### The time base (R99) -/

theorem State.timeBase_of_tableSide (e : t.tableSide = s.tableSide) : t.timer.timeBase = s.timer.timeBase :=
  congrArg (fun side => side.timer.timeBase) e

@[simp] theorem State.presentDue_timeBase : s.presentDue.timer.timeBase = s.timer.timeBase := by
  unfold State.presentDue
  split <;> rfl

theorem Timer.periods_timeBase {l : Timer} (n : Nat) (inRange : l.timeBase ≤ Config.timeMax) :
    l.timeBase ≤ (l.periods n).timeBase ∧ (l.periods n).timeBase ≤ Config.timeMax := by
  unfold Timer.periods
  split
  · exact ⟨Nat.le_min.mpr ⟨inRange, Nat.le_add_right _ _⟩, Nat.min_le_left _ _⟩
  · exact ⟨le_rfl, inRange⟩

/-- A SET_TIME never moves the time base back (R103). -/
theorem setTimeAct_timeBase (checks : checkSetTime d = true) (inRange : x.timer.timeBase ≤ Config.timeMax) :
    x.timer.timeBase ≤ (setTimeAct d x).timer.timeBase ∧ (setTimeAct d x).timer.timeBase ≤ Config.timeMax := by
  unfold setTimeAct
  split
  · exact ⟨le_rfl, inRange⟩
  next forward => exact ⟨Nat.le_of_not_lt forward, by simpa [checkSetTime] using checks⟩

theorem Effect.timeBase (e : Effect i s t) (reset : i ≠ .powerOnReset) (inRange : s.timer.timeBase ≤ Config.timeMax) :
    s.timer.timeBase ≤ t.timer.timeBase ∧ t.timer.timeBase ≤ Config.timeMax := by
  have same : t.timer.timeBase = s.timer.timeBase →
      s.timer.timeBase ≤ t.timer.timeBase ∧ t.timer.timeBase ≤ Config.timeMax := fun e => ⟨e.ge, e.trans_le inRange⟩
  rcases e.tableSide with e | e
  · exact same (State.timeBase_of_tableSide e)
  · cases e with
    | poweredOn row => exact absurd row reset
    | ticked _ n => exact Timer.periods_timeBase n inRange
    | presentedDue x kept => exact same (by simpa using State.timeBase_of_tableSide kept)
    | timeSet _ d checks => exact setTimeAct_timeBase (x := s.taken) checks inRange
    | initialised | profileSet | tickSet | struck => exact same rfl
    | granted | seedGranted | domainGranted => exact same (State.grant_timeBase _ _ _ _)

theorem Effect.timeBase_eq (e : Effect i s t) (reset : i ≠ .powerOnReset) (tick : i ≠ .tick) (setTime : i ≠ .setTime) :
    t.timer.timeBase = s.timer.timeBase := by
  rcases e.tableSide with e | e
  · exact State.timeBase_of_tableSide e
  · cases e with
    | poweredOn row => exact absurd row reset
    | ticked row n => exact absurd row tick
    | presentedDue x kept => simpa using State.timeBase_of_tableSide kept
    | timeSet row => exact absurd row setTime
    | initialised | profileSet | tickSet | struck => rfl
    | granted | seedGranted | domainGranted => exact State.grant_timeBase _ _ _ _

/-- Settles O11: of the effects on the side of the table a tick and a SET_TIME alone write the time base, and neither moves
it back. -/
theorem timeBaseNeverDecreases : Obligations.TimeBaseNeverDecreases := by
  unfold Obligations.TimeBaseNeverDecreases
  refine ⟨fun s t inRange front e => ?_, fun c s t reset tick setTime e => (exec_effect e).timeBase_eq reset tick setTime⟩
  rcases step_cases e with ⟨-, rfl⟩ | ⟨i, rest, pending, e⟩
  · exact Timer.periods_timeBase 1 inRange
  · exact (exec_effect e).timeBase (fun row => front (by simp [pending, row])) inRange

/-! ### The arbiter's place (R29) -/

/-- The ring of requesters behind a requester counts up from the next one. -/
theorem ringAfter_behind (r : Requester) : (ringAfter r).map (Requester.behind r) = [0, 1, 2, 3, 4, 5, 6] := by
  rcases r with c | _ | _ | _
  · fin_cases c <;> rfl
  all_goals rfl

theorem mem_ringAfter (r q : Requester) : q ∈ ringAfter r := by
  have all : ∀ r ∈ ring, ∀ q ∈ ring, q ∈ ringAfter r := by decide
  have mem : ∀ r, r ∈ ring := by
    intro r
    rcases r with c | _ | _ | _
    · fin_cases c <;> decide
    all_goals decide
  exact all r (mem r) q (mem q)

/-- In a list on which a measure rises, the first element with a property is the one of least measure. -/
theorem find?_eq_some_iff_least {α : Type} {l : List α} {p : α → Bool} {f : α → Nat} (rising : (l.map f).Pairwise (· < ·))
    (all : ∀ q, q ∈ l) (r : α) : l.find? p = some r ↔ p r = true ∧ ∀ q, p q = true → f r ≤ f q := by
  have least : ∀ {r}, l.find? p = some r → ∀ q, p q = true → f r ≤ f q := by
    intro r found q holds
    obtain ⟨-, before, after, rfl, none⟩ := List.find?_eq_some_iff_append.mp found
    rcases List.mem_append.mp (all q) with m | m
    · simpa [holds] using none q m
    · rcases List.mem_cons.mp m with rfl | m
      · exact le_rfl
      · have := (List.pairwise_append.mp (List.pairwise_map.mp rising)).2.1
        exact (List.rel_of_pairwise_cons this m).le
  refine ⟨fun found => ⟨List.find?_some found, least found⟩, fun ⟨holds, first⟩ => ?_⟩
  obtain ⟨r', found⟩ := Option.isSome_iff_exists.mp (List.find?_isSome.mpr ⟨r, all r, holds⟩)
  have same : f r = f r' := le_antisymm (first r' (List.find?_some found)) (least found r holds)
  have once : r = r' :=
    List.inj_on_of_nodup_map (rising.imp fun {_ _} less => Nat.ne_of_lt less) (all r) (all r') same
  rw [found, once]

theorem State.nextGrant_iff (s : State) (r : Requester) : s.nextGrant = some r ↔
    s.opAtTable = none ∧ s.waits r = true
    ∧ ∀ q, s.waits q = true → Requester.behind s.lastGranted r ≤ Requester.behind s.lastGranted q := by
  unfold State.nextGrant
  split
  next op atTable => simp [atTable]
  next free =>
    rw [find?_eq_some_iff_least (f := Requester.behind s.lastGranted) (by rw [ringAfter_behind]; decide)
      (mem_ringAfter s.lastGranted)]
    simp [free]

theorem State.nextGrant_none_iff (s : State) :
    s.nextGrant = none ↔ s.opAtTable.isSome ∨ ∀ q, s.waits q = false := by
  unfold State.nextGrant
  split
  next op atTable => simp [atTable]
  next free => simp [free, List.find?_eq_none, mem_ringAfter]

theorem State.atTable_grant (s : State) (r : Requester) (u : FlowTable) (o : OpOutcome) :
    (s.grant r u o).atTable r = true := by
  simp [State.atTable]

theorem Effect.lastGranted (e : Effect i s t) (reset : i ≠ .powerOnReset) (moved : t.lastGranted ≠ s.lastGranted) :
    s.nextGrant = some t.lastGranted ∧ t.atTable t.lastGranted = true := by
  rcases e.tableSide with kept | e
  · exact absurd (congrArg TableSide.lastGranted kept) moved
  · cases e with
    | poweredOn row => exact absurd row reset
    | granted r u o n next => exact ⟨next, State.atTable_grant _ _ _ _⟩
    | seedGranted seed st r next => exact ⟨next, State.atTable_grant _ _ _ _⟩
    | domainGranted d st r granted => exact ⟨granted.1, State.atTable_grant _ _ _ _⟩
    | presentedDue x kept => exact absurd (x.presentDue_lastGranted.trans (congrArg TableSide.lastGranted kept)) moved
    | timeSet _ d => exact absurd (by unfold setTimeAct; split <;> rfl) moved
    | initialised | ticked | profileSet | tickSet | struck => exact absurd rfl moved

/-- Settles O14: the ring behind the last granted counts its requesters up, so that the first that waits is the nearest. -/
theorem arbiterGrantsTheNextInTheRing : Obligations.ArbiterGrantsTheNextInTheRing :=
  ⟨State.nextGrant_iff, State.nextGrant_none_iff, fun _ _ _ reset e moved => (exec_effect e).lastGranted reset moved, rfl⟩

end Sys2Proof.Machine
end

section
/-! PROOF. The accounts of the completion queue (R145, R148, R149): what a command can do to the port between its take and its
completions, and that each completion it posts is of one command that then holds no reservation any more. -/

namespace Sys2Proof.Machine

variable {s t u x : State} {i : Instr} {d : Descriptor} {p q r : Port} {m n : Nat} {c : Fin 4}

/-! ### Posts at the port -/

/-- The port with one completion posted (R149). -/
def Port.posted (p : Port) (tag : BitVec 16) (kind : Byte) (st : Status) (r : Results) : Port :=
  { p with
    window := storeLE p.window (completionOffset p.cplProducer) 64 (completionBits tag kind st r)
    cplProducer := (p.cplProducer + 1) % 64
    reservations := p.reservations - 1 }

theorem State.post_port (tag : BitVec 16) (kind : Byte) (st : Status) (r : Results) :
    (s.post tag kind st r).port = s.port.posted tag kind st r := rfl

/-- A port comes from another by so many posts, with latched causes set and cleared between them. -/
inductive Port.Posts : Port → Nat → Port → Prop
  | none {p : Port} : Posts p 0 p
  | latched {p : Port} {n : Nat} {q : Port} (before : Posts p n q) (b : Word) (noLevel : b &&& 7#32 = 0#32) :
      Posts p n { q with latched := q.latched ||| b }
  | cleared {p : Port} {n : Nat} {q : Port} (before : Posts p n q) (b : Word) :
      Posts p n { q with latched := q.latched &&& ~~~b }
  | posted {p : Port} {n : Nat} {q : Port} (before : Posts p n q) (tag : BitVec 16) (kind : Byte) (st : Status)
      (r : Results) : Posts p (n + 1) (q.posted tag kind st r)

theorem Port.Posts.trans (a : p.Posts m q) (b : q.Posts n r) : p.Posts (m + n) r := by
  induction b with
  | none => exact a
  | latched _ b noLevel ih => exact ih.latched b noLevel
  | cleared _ b ih => exact ih.cleared b
  | posted _ tag kind st r ih => exact ih.posted tag kind st r

/-- The indexes of the two queues, their occupancies and the latched causes are in range (R143, R149, R151). -/
structure Port.Law (p : Port) : Prop where
  cmdProducer : p.cmdProducer < 32
  cmdConsumer : p.cmdConsumer < 32
  cplProducer : p.cplProducer < 64
  cplConsumer : p.cplConsumer < 64
  occupancy : p.occupancy ≤ 16
  room : p.entries + p.reservations ≤ 32
  noLevel : p.latched &&& 7#32 = 0#32

theorem and_or_low {a b : Word} (x : a &&& 7#32 = 0#32) (y : b &&& 7#32 = 0#32) : (a ||| b) &&& 7#32 = 0#32 := by
  rw [BitVec.and_comm, BitVec.and_or_distrib_left, BitVec.and_comm _ a, BitVec.and_comm _ b, x, y]; rfl

theorem and_and_low {a : Word} (b : Word) (x : a &&& 7#32 = 0#32) : a &&& b &&& 7#32 = 0#32 := by
  rw [BitVec.and_assoc, BitVec.and_comm b, ← BitVec.and_assoc, x, BitVec.zero_and]

/-- Posts that are covered by reservations keep the law of the port, and use up as many of them. -/
theorem Port.Posts.law (a : p.Posts n q) (law : p.Law) (covered : n ≤ p.reservations) :
    q.Law ∧ q.reservations + n = p.reservations := by
  induction a with
  | none => exact ⟨law, rfl⟩
  | latched _ b noLevel ih =>
    obtain ⟨law, count⟩ := ih covered
    exact ⟨{ law with noLevel := and_or_low law.noLevel noLevel }, count⟩
  | cleared _ b ih =>
    obtain ⟨law, count⟩ := ih covered
    exact ⟨{ law with noLevel := and_and_low _ law.noLevel }, count⟩
  | @posted n q before tag kind st r ih =>
    obtain ⟨law, count⟩ := ih (by omega)
    have room := law.room
    have producer := law.cplProducer
    have consumer := law.cplConsumer
    refine ⟨{ law with cplProducer := Nat.mod_lt _ (by omega), room := ?_ }, ?_⟩
    · simp only [Port.entries, Port.posted] at room ⊢
      omega
    · simp only [Port.posted]
      omega

/-- A post leaves the window canonical. -/
theorem Port.Posts.window (a : p.Posts n q) (w : cellsWf 0#8 p.window) : cellsWf 0#8 q.window := by
  induction a with
  | none => exact w
  | latched _ _ _ ih => exact ih
  | cleared _ _ ih => exact ih
  | posted _ _ _ _ _ ih => exact storeLE_wf _ _ _ _ ih

/-! ### Balanced work -/

/-- Each completion posted is of one command that holds no reservation any more. -/
def State.Balanced (s t : State) : Prop := ∃ n, s.port.Posts n t.port ∧ t.holders + n = s.holders

theorem State.Balanced.of_eq (port : t.port = s.port) (holders : t.holders = s.holders) : s.Balanced t :=
  ⟨0, port ▸ .none, holders⟩

theorem State.Balanced.refl (s : State) : s.Balanced s := .of_eq rfl rfl

theorem State.Balanced.trans (a : s.Balanced t) (b : t.Balanced u) : s.Balanced u := by
  obtain ⟨m, posts, holders⟩ := a
  obtain ⟨n, posts', holders'⟩ := b
  exact ⟨m + n, posts.trans posts', by omega⟩

@[simp] theorem flagCode_true : flagCode true = 1 := rfl

@[simp] theorem flagCode_false : flagCode false = 0 := rfl

/-- How many channels have a CLOSE pending (R74). -/
def State.closing (s : State) : Nat := ∑ c, flagCode (s.chan c).closePending.isSome

theorem State.holders_eq (s : State) : s.holders =
    flagCode s.inExec.isSome + flagCode s.sweep.pendingSweep.isSome + flagCode s.sweep.pendingSuspend.isSome
      + s.closing := by
  simp only [State.holders, State.closing, Fin.sum_univ_four]
  omega

theorem State.holders_of {a b c : Bool} {n : Nat} (exec : t.inExec.isSome = a) (sweep : t.sweep.pendingSweep.isSome = b)
    (suspend : t.sweep.pendingSuspend.isSome = c) (closing : t.closing = n) :
    t.holders = flagCode a + flagCode b + flagCode c + n := by
  rw [State.holders_eq, exec, sweep, suspend, closing]

theorem State.holders_congr (exec : t.inExec.isSome = s.inExec.isSome)
    (sweep : t.sweep.pendingSweep.isSome = s.sweep.pendingSweep.isSome)
    (suspend : t.sweep.pendingSuspend.isSome = s.sweep.pendingSuspend.isSome)
    (close : ∀ c, (t.chan c).closePending.isSome = (s.chan c).closePending.isSome) : t.holders = s.holders := by
  simp only [State.holders_eq, State.closing, exec, sweep, suspend, close]

/-- The holders when one channel is written. -/
theorem State.holders_setChan (s : State) (c : Fin 4) (ch : Channel) :
    (s.setChan c ch).holders + flagCode (s.chan c).closePending.isSome
      = s.holders + flagCode ch.closePending.isSome := by
  have others : ∑ k ∈ Finset.univ.erase c, flagCode ((s.setChan c ch).chan k).closePending.isSome
      = ∑ k ∈ Finset.univ.erase c, flagCode (s.chan k).closePending.isSome :=
    Finset.sum_congr rfl fun k m => by rw [State.setChan_chan, if_neg (Finset.ne_of_mem_erase m)]
  simp only [State.holders_eq, State.closing, ← Finset.add_sum_erase _ _ (Finset.mem_univ c), others, State.setChan_chan_same,
    State.setChan_inExec, State.setChan_sweep]
  omega

theorem State.Balanced.setChan {ch : Channel} (same : ch.closePending.isSome = (s.chan c).closePending.isSome := by rfl) :
    s.Balanced (s.setChan c ch) :=
  .of_eq rfl (by have := s.holders_setChan c ch; rw [same] at this; omega)

theorem State.Balanced.latch (s : State) (b : Word) (noLevel : b &&& 7#32 = 0#32) : s.Balanced (s.latch b) :=
  ⟨0, Port.Posts.none.latched b noLevel, rfl⟩

theorem State.Balanced.unlatch (s : State) (b : Word) : s.Balanced (s.unlatch b) := ⟨0, Port.Posts.none.cleared b, rfl⟩

theorem State.Balanced.abandon (s : State) (r : Requester) : s.Balanced (s.abandon r) :=
  .of_eq (State.abandon_port s r) (State.holders_congr (by simp) (by simp) (by simp) (by simp))

theorem State.Balanced.endOp (s : State) : s.Balanced s.endOp := .of_eq rfl rfl

/-- The end of a command in execution. -/
theorem State.Balanced.complete (exec : s.inExec.isSome = true) (d : Descriptor) (st : Status) (r : Results) :
    s.Balanced (s.complete d st r) := by
  refine ⟨1, Port.Posts.none.posted _ _ st r, ?_⟩
  rw [State.holders_of (t := s) exec rfl rfl rfl,
    State.holders_of (t := s.complete d st r) (n := s.closing) rfl rfl rfl rfl]
  simp only [flagCode_true, State.complete_inExec, State.complete_sweep, Option.isSome_none, flagCode_false]
  omega

theorem State.Balanced.completeControl (exec : s.inExec.isSome = true) (d : Descriptor) (st : Status) :
    s.Balanced (s.completeControl d st) := .complete exec d st _

theorem State.Balanced.completeSweep (exec : s.inExec.isSome = true) (d : Descriptor) (st : Status) :
    s.Balanced (s.completeSweep d st) := .complete exec d st _

/-- The end of a pending CLOSE. -/
theorem State.Balanced.endClose (s : State) (c : Fin 4) (st : Status) : s.Balanced (s.endClose c st) := by
  rcases h : (s.chan c).closePending with _ | tag
  · rw [State.endClose_none h]; exact .refl s
  · rw [State.endClose_some h]
    refine ⟨1, Port.Posts.none.posted tag 6#8 st _, ?_⟩
    have lowered := s.holders_setChan c { s.chan c with closePending := none }
    simp only [h, Option.isSome_some, Option.isSome_none, flagCode_true, flagCode_false] at lowered
    exact lowered

/-- The end of a pending SWEEP. -/
theorem State.Balanced.endSweep (s : State) (st : Status) : s.Balanced (s.endSweep st) := by
  rcases h : s.sweep.pendingSweep with _ | tag
  · rw [State.endSweep_none h]; exact .refl s
  · rw [State.endSweep_some h]
    refine ⟨1, Port.Posts.none.posted tag 20#8 st _, ?_⟩
    rw [State.holders_of (t := s) rfl (congrArg _ h) rfl rfl,
      State.holders_of (t := ({ s with sweep := { s.sweep with pendingSweep := none } } : State).post tag 20#8 st _)
        (n := s.closing) rfl rfl rfl rfl]
    simp only [State.post_inExec, State.post_sweep, Option.isSome_some, Option.isSome_none, flagCode_true, flagCode_false]
    omega

/-- The end of a pending SWEEP_SUSPEND. -/
theorem State.Balanced.endSuspend (s : State) (st : Status) : s.Balanced (s.endSuspend st) := by
  rcases h : s.sweep.pendingSuspend with _ | tag
  · rw [State.endSuspend_none h]; exact .refl s
  · rw [State.endSuspend_some h]
    refine ⟨1, Port.Posts.none.posted tag 21#8 st _, ?_⟩
    rw [State.holders_of (t := s) rfl rfl (congrArg _ h) rfl,
      State.holders_of (t := ({ s with sweep := { s.sweep with pendingSuspend := none } } : State).post tag 21#8 st _)
        (n := s.closing) rfl rfl rfl rfl]
    simp only [State.post_inExec, State.post_sweep, Option.isSome_some, Option.isSome_none, flagCode_true, flagCode_false]
    omega

theorem State.Balanced.endAbort (s : State) : s.Balanced s.endAbort := by
  unfold State.endAbort
  split
  next e exec => exact .complete (by simp [exec]) _ _ _
  next => exact .refl s

theorem State.Balanced.endDrain (s : State) (c : Fin 4) : s.Balanced (s.endDrain c) :=
  (State.Balanced.setChan).trans (.endClose _ c .ok)

theorem State.Balanced.serve (s : State) (c : Fin 4) : s.Balanced (s.serve c) := by
  unfold State.serve
  dsimp only
  split_ifs
  · exact .setChan
  · exact (State.Balanced.setChan).trans (.endDrain _ c)
  · exact .setChan
  · exact .refl s

theorem faultBit_noLevel (c : Fin 4) : faultBit c &&& 7#32 = 0#32 := by fin_cases c <;> rfl

theorem State.Balanced.faultChannel (s : State) (c : Fin 4) (why : FaultReason) : s.Balanced (s.faultChannel c why) :=
  (State.Balanced.setChan).trans <| (State.Balanced.abandon _ _).trans <|
    (State.Balanced.latch _ _ (faultBit_noLevel c)).trans (.endClose _ c .aborted)

theorem State.Balanced.requestArrives (s : State) (c : Fin 4) (tag : Byte) (body : RequestBody) :
    s.Balanced (s.requestArrives c tag body) := by
  unfold State.requestArrives
  dsimp only
  split
  · exact .setChan
  · exact .refl s
  · split
    · exact (State.Balanced.setChan).trans (.serve _ c)
    · exact .faultChannel s c .overrun
  · split_ifs
    · exact .setChan
    · exact .setChan
    · exact .faultChannel s c .overrun

theorem State.Balanced.setSweepState (s : State) (w : SweepState) : s.Balanced (s.setSweepState w) := .of_eq rfl rfl

theorem State.Balanced.presentPosition (s : State) : s.Balanced s.presentPosition := by
  unfold State.presentPosition
  split
  · exact .refl s
  · exact .of_eq rfl rfl

theorem State.Balanced.afterPosition (s : State) : s.Balanced s.afterPosition := by
  unfold State.afterPosition
  split
  · split
    · exact .presentPosition s
    · exact (State.Balanced.setSweepState s .idle).trans (.endSweep _ .ok)
  · split
    · exact (State.Balanced.setSweepState s .suspended).trans (.endSuspend _ .ok)
    · exact (State.Balanced.setSweepState s .idle).trans <| (State.Balanced.endSweep _ .ok).trans (.endSuspend _ .notRunning)
  · exact (State.Balanced.setSweepState s .idle).trans <| (State.Balanced.endSuspend _ .aborted).trans <|
      (State.Balanced.endSweep _ .aborted).trans (.endAbort _)
  · exact .refl s
  · exact .refl s

/-! ### The command taken -/

/-- A long command is pending only where its owner waits for it (R74, R174, R175). -/
structure State.Owned (s : State) : Prop where
  close : ∀ c, (s.chan c).closePending.isSome → (s.chan c).state = .draining
  sweep : s.sweep.pendingSweep.isSome → s.sweep.state ≠ .idle
  suspend : s.sweep.pendingSuspend.isSome → s.sweep.state = .suspending ∨ s.sweep.state = .aborting

theorem portInv_iff : PortInv s ↔ s.port.Law ∧ s.port.reservations = s.holders ∧ s.Owned := by
  constructor
  · rintro ⟨cmdProducer, cmdConsumer, cplProducer, cplConsumer, occupancy, room, reserved, close, sweep, suspend, noLevel⟩
    exact ⟨⟨cmdProducer, cmdConsumer, cplProducer, cplConsumer, occupancy, room, noLevel⟩, reserved, close, sweep, suspend⟩
  · rintro ⟨law, reserved, own⟩
    exact ⟨law.cmdProducer, law.cmdConsumer, law.cplProducer, law.cplConsumer, law.occupancy, law.room, reserved, own.close,
      own.sweep, own.suspend, law.noLevel⟩

theorem State.Balanced.posts (a : s.Balanced t) : ∃ n, s.port.Posts n t.port ∧ (s.Owned → t.holders + n = s.holders) := by
  obtain ⟨n, posts, holders⟩ := a
  exact ⟨n, posts, fun _ => holders⟩

/-- A CLOSE that goes from execution to its channel still holds its reservation (R74, R148). -/
theorem State.holders_closeHanded (exec : s.inExec.isSome = true) (free : (s.chan c).closePending = none) {ch : Channel}
    (pending : ch.closePending.isSome = true) :
    ({ s.setChan c ch with inExec := none } : State).holders = s.holders := by
  have raised := s.holders_setChan c ch
  rw [State.holders_of (t := s.setChan c ch) (a := true) exec rfl rfl rfl, free, pending] at raised
  rw [State.holders_of (t := { s.setChan c ch with inExec := none }) (n := (s.setChan c ch).closing) rfl rfl rfl rfl]
  simp only [State.setChan_sweep, Option.isSome_none, flagCode_true, flagCode_false] at raised ⊢
  omega

/-- A SWEEP or SWEEP_SUSPEND that goes from execution to the sweep unit still holds its reservation (R148). -/
theorem State.holders_sweepHanded (exec : s.inExec.isSome = true) {w : Sweep}
    (raised : flagCode w.pendingSweep.isSome + flagCode w.pendingSuspend.isSome
      = flagCode s.sweep.pendingSweep.isSome + flagCode s.sweep.pendingSuspend.isSome + 1) :
    ({ s with inExec := none, sweep := w } : State).holders = s.holders := by
  rw [State.holders_of (t := s) exec rfl rfl rfl,
    State.holders_of (t := { s with inExec := none, sweep := w }) (n := s.closing) rfl rfl rfl rfl]
  simp only [Option.isSome_none, flagCode_true, flagCode_false]
  omega

theorem Option.eq_none_of_imp {α : Type} {o : Option α} {p : Prop} (h : o.isSome → p) (n : ¬ p) : o = none := by
  rcases o with _ | a
  · rfl
  · exact absurd (h rfl) n

section Taken
variable (exec : x.inExec.isSome = true)
include exec

theorem setProfileAct_balanced : x.Balanced (setProfileAct d x) :=
  State.Balanced.complete
    (s := { x with
      profiles := x.profiles.set (profileOf d).val { rate := fieldAt d 8 4, burst := fieldAt d 12 4 } (profileOf d).isLt })
    exec d .ok _

theorem setTickAct_balanced : x.Balanced (setTickAct d x) :=
  State.Balanced.complete
    (s := { x with timer := { x.timer with divider := fieldAt d 4 4, enable := fieldAt d 8 1 = 1, dividerCount := 0 } })
    exec d .ok _

theorem setTimeAct_balanced : x.Balanced (setTimeAct d x) := by
  unfold setTimeAct
  split
  · exact .complete exec d _ _
  · exact State.Balanced.complete (s := { x with timer := { x.timer with timeBase := fieldAt d 8 8 } }) exec d _ _

theorem openChannel_balanced : x.Balanced (openChannel d x) := by
  unfold openChannel
  dsimp only
  split
  · exact .trans .setChan (.completeControl (by simpa using exec) d .ok)
  all_goals exact .completeControl exec d _

theorem resetChannel_balanced : x.Balanced (resetChannel d x) :=
  (State.Balanced.endClose x _ .aborted).trans <| State.Balanced.trans .setChan <| (State.Balanced.abandon _ _).trans <|
    (State.Balanced.unlatch _ _).trans <| .completeControl (by simpa using exec) d _

/-- Where a CLOSE is pending only in DRAINING, a CLOSE finds none pending in OPEN, and its reservation is kept. -/
theorem closeChannel_posts : ∃ n, x.port.Posts n (closeChannel d x).port
    ∧ (x.Owned → (closeChannel d x).holders + n = x.holders) := by
  unfold closeChannel
  dsimp only
  split
  next opened =>
    split
    · exact ⟨0, .none, fun own =>
        State.holders_closeHanded exec (Option.eq_none_of_imp (own.close _) (by simp [opened])) rfl⟩
    · exact (State.Balanced.trans .setChan (.completeControl (by simpa using exec) d .ok)).posts
  all_goals exact (State.Balanced.completeControl exec d _).posts

theorem sweepAccept_posts : ∃ n, x.port.Posts n (sweepAccept d x).port
    ∧ (x.Owned → (sweepAccept d x).holders + n = x.holders) := by
  unfold sweepAccept
  split
  next idle =>
    obtain ⟨n, posts, holders⟩ := State.Balanced.presentPosition { x with
      inExec := none
      sweep := { x.sweep with
        state := .running, cursor := 0, visited := 0, matched := 0, acted := 0,
        params := sweepParams d, pendingSweep := some (tagOf d) } }
    refine ⟨n, posts, fun own => holders.trans (State.holders_sweepHanded exec ?_)⟩
    simp [Option.eq_none_of_imp own.sweep (by simp [idle]), Nat.add_comm]
  all_goals exact (State.Balanced.completeSweep exec d _).posts

theorem sweepSuspendAct_posts : ∃ n, x.port.Posts n (sweepSuspendAct d x).port
    ∧ (x.Owned → (sweepSuspendAct d x).holders + n = x.holders) := by
  unfold sweepSuspendAct
  split
  next running =>
    refine ⟨0, .none, fun own => State.holders_sweepHanded exec ?_⟩
    simp [Option.eq_none_of_imp own.suspend (by simp [running])]
  all_goals exact (State.Balanced.completeSweep exec d _).posts

theorem sweepResumeAct_balanced : x.Balanced (sweepResumeAct d x) := by
  unfold sweepResumeAct
  split
  · exact (State.Balanced.setSweepState x .running).trans <|
      (State.Balanced.presentPosition _).trans (.completeSweep (by simpa using exec) d _)
  all_goals exact .completeSweep exec d _

theorem sweepAbortAct_balanced : x.Balanced (sweepAbortAct d x) := by
  have aborting : x.Balanced { x.setSweepState .aborting with inExec := some { desc := d, phase := .aborting } } :=
    .of_eq rfl (State.holders_congr exec.symm rfl rfl fun _ => rfl)
  unfold sweepAbortAct
  split
  · exact aborting
  · exact aborting
  · exact (State.Balanced.setSweepState x .idle).trans <|
      (State.Balanced.endSweep _ .aborted).trans (.completeSweep (by simpa using exec) d _)
  all_goals exact .completeSweep exec d _

/-- What a taken command posts, and the reservations held after it. -/
theorem Carried.posts (e : Carried i d x t) :
    ∃ n, x.port.Posts n t.port ∧ (x.Owned → t.holders + n = x.holders) := by
  cases e with
  | presented => exact ⟨0, .none, fun _ => State.holders_congr exec.symm rfl rfl fun _ => rfl⟩
  | completed st r => exact (State.Balanced.complete exec d st r).posts
  | profileSet => exact (setProfileAct_balanced exec).posts
  | tickSet => exact (setTickAct_balanced exec).posts
  | timeSet => exact (setTimeAct_balanced exec).posts
  | channelOpened => exact (openChannel_balanced exec).posts
  | channelClosed => exact closeChannel_posts exec
  | channelReset => exact (resetChannel_balanced exec).posts
  | sweepAccepted => exact sweepAccept_posts exec
  | sweepSuspended => exact sweepSuspendAct_posts exec
  | sweepResumed => exact (sweepResumeAct_balanced exec).posts
  | sweepAborted => exact (sweepAbortAct_balanced exec).posts

end Taken

end Sys2Proof.Machine
end

section
/-! PROOF. The effects on the port: balanced work, a take, or a write of the host's; and the bounds over every step: quotas,
settings, checked arguments, bodies in range, canonical stores. -/

namespace Sys2Proof.Machine

variable {s t x : State} {i : Instr} {d : Descriptor} {c : Fin 4}

/-! ### The effects on the port -/

/-- The effects that are more to the port than posts of commands that end. -/
inductive PortWork (i : Instr) (s : State) : State → Prop
  | poweredOn : PortWork i s s.poweredOn
  | initialised : PortWork i s s.initialised
  | took (can : CanTakeNow s) (t : State) (carried : Carried i s.nextDescriptor s.taken t) : PortWork i s t
  | producerWritten (v : Word) : PortWork i s (s.writeCmdProducer v)
  | consumerWritten (v : Word) : PortWork i s (s.writeCplConsumer v)
  | enablesWritten (v : Word) : PortWork i s (s.writeEnables v)
  | runWritten (run : Bool) : PortWork i s { s with port := { s.port with run := run } }
  | portReset (run : Bool) : PortWork i s ({ s with port := { s.port with run := run } } : State).portReset
  | slotWritten (o : Nat) (v : Word) :
      PortWork i s { s with port := { s.port with window := storeLE s.port.window o 4 v.toNat } }
  | timeRead : PortWork i s s.timeLowRead

theorem State.holders_grant (r : Requester) (u : FlowTable) (o : OpOutcome) : (s.grant r u o).holders = s.holders := by
  refine State.holders_congr ?_ ?_ ?_ fun k => ?_
  · cases r <;> simp [State.grant, State.leaveWait]
  · cases r <;> rfl
  · cases r <;> rfl
  · cases r with
    | lc c =>
      change ((s.setChan c _).chan k).closePending.isSome = _
      rw [State.setChan_chan]
      split
      next e => rw [e]
      next => rfl
    | cp | su | lt => rfl

theorem State.Balanced.grant (s : State) (r : Requester) (u : FlowTable) (o : OpOutcome) : s.Balanced (s.grant r u o) :=
  .of_eq (State.grant_port s u r o) (State.holders_grant r u o)

theorem State.Balanced.presentDue (s : State) : s.Balanced s.presentDue :=
  .of_eq (by simp) (State.holders_congr (by simp) (by simp) (by simp) fun _ => by simp [State.chan])

theorem State.Balanced.movedOn (s : State) (v m a : Nat) : s.Balanced (s.movedOn v m a) := .of_eq rfl rfl

/-- Every effect is balanced work at the port, or one of those that are more. -/
theorem Effect.port (e : Effect i s t) : s.Balanced t ∨ PortWork i s t := by
  cases e with
  | kept => exact .inl (.refl s)
  | poweredOn => exact .inr .poweredOn
  | initialised => exact .inr .initialised
  | ticked | struck => exact .inl (.of_eq rfl rfl)
  | presentedDue => exact .inl (.presentDue s)
  | requested c tag body => exact .inl (.requestArrives s c tag body)
  | faulted c why => exact .inl (.faultChannel s c why)
  | granted r u o n => exact .inl (.grant { s with freeCount := n } r u o)
  | seedGranted seed => exact .inl (.grant { s with seed := seed } .cp s.table _)
  | domainGranted d => exact .inl (.grant (s.domainWritten d) .cp s.table _)
  | answered c _ r =>
    refine .inl (.trans (t := s.endOp.setChan c ((s.chan c).answerHead r)) (.setChan ?_) (.serve _ c))
    unfold Channel.answerHead
    split <;> rfl
  | discarded c => exact .inl (.serve s.endOp c)
  | commandDropped | positionDropped => exact .inl (.endOp s)
  | commandCompleted _ st r e _ inExec => exact .inl (State.Balanced.complete (s := s.endOp) (by simp [inExec]) e.desc st r)
  | timerEnded => exact .inl (.presentDue s.endOp)
  | positionEnded _ v m a => exact .inl ((State.Balanced.movedOn s v m a).trans (.afterPosition _))
  | positionRestarted => exact .inl (.presentPosition s.endOp)
  | took can t carried => exact .inr (.took can t carried)
  | producerWritten v => exact .inr (.producerWritten v)
  | consumerWritten v => exact .inr (.consumerWritten v)
  | causesCleared v => exact .inl (.unlatch s v)
  | enablesWritten v => exact .inr (.enablesWritten v)
  | runWritten run => exact .inr (.runWritten run)
  | portReset run => exact .inr (.portReset run)
  | slotWritten o v => exact .inr (.slotWritten o v)
  | timeRead => exact .inr .timeRead

/-- Every effect leaves the window canonical. -/
theorem Effect.window_wf (e : Effect i s t) (w : cellsWf 0#8 s.port.window) : cellsWf 0#8 t.port.window := by
  rcases e.port with ⟨n, posts, -⟩ | e
  · exact posts.window w
  · cases e with
    | poweredOn => exact ⟨.nil, fun p m => absurd m (by simp [State.poweredOn, State.reset, Port.powerOn])⟩
    | took _ _ carried =>
      obtain ⟨n, posts, -⟩ := carried.posts rfl
      exact posts.window w
    | slotWritten o v => exact storeLE_wf _ _ _ _ w
    | producerWritten v => unfold State.writeCmdProducer; dsimp only; split <;> exact w
    | consumerWritten v => unfold State.writeCplConsumer; split <;> exact w
    | initialised | enablesWritten | runWritten | portReset | timeRead => exact w

/-! ### Checked arguments (R146) -/

@[simp] theorem State.serve_inExec : (s.serve c).inExec = s.inExec := by
  unfold State.serve
  dsimp only
  split_ifs <;> simp [State.endDrain]

@[simp] theorem State.faultChannel_inExec (why : FaultReason) : (s.faultChannel c why).inExec = s.inExec := by
  simp [State.faultChannel]

@[simp] theorem State.requestArrives_inExec (tag : Byte) (body : RequestBody) :
    (s.requestArrives c tag body).inExec = s.inExec := by
  unfold State.requestArrives
  dsimp only
  split
  · rfl
  · rfl
  · split_ifs <;> simp
  · split_ifs <;> simp

theorem State.endAbort_inExec : s.endAbort.inExec = none := by
  unfold State.endAbort
  split
  · rfl
  next none_ => exact none_

theorem State.afterPosition_inExec :
    s.afterPosition.inExec = if s.sweep.state = .aborting then none else s.inExec := by
  unfold State.afterPosition
  split
  next running => simp only [running, reduceCtorEq, if_false]; split <;> simp
  next suspending => simp only [suspending, reduceCtorEq, if_false]; split <;> simp
  next aborting => rw [aborting]; exact State.endAbort_inExec
  next idle => rw [idle]; rfl
  next suspended => rw [suspended]; rfl

/-- What is in execution after a take: nothing, a command whose checked operation waits, or a SWEEP_ABORT. -/
theorem Carried.inExec (e : Carried i d x t) : t.inExec = none
    ∨ (t.inExec = some { desc := d, phase := .waiting } ∧ checkFor d = true)
    ∨ (t.inExec = some { desc := d, phase := .aborting } ∧ kindOf d = 23#8) := by
  cases e with
  | presented checks => exact .inr (.inl ⟨rfl, checks⟩)
  | completed | profileSet | tickSet | channelReset => exact .inl rfl
  | timeSet => left; unfold setTimeAct; split <;> rfl
  | channelOpened => left; unfold openChannel; dsimp only; split <;> rfl
  | channelClosed =>
    left; unfold closeChannel; dsimp only
    split
    · split <;> rfl
    all_goals rfl
  | sweepAccepted =>
    left; unfold sweepAccept
    split
    · simp
    all_goals rfl
  | sweepSuspended => left; unfold sweepSuspendAct; split <;> rfl
  | sweepResumed => left; unfold sweepResumeAct; split <;> rfl
  | sweepAborted kind =>
    unfold sweepAbortAct
    split
    · exact .inr (.inr ⟨rfl, kind⟩)
    · exact .inr (.inr ⟨rfl, kind⟩)
    all_goals exact .inl rfl

theorem State.grant_inExec (r : Requester) (u : FlowTable) (o : OpOutcome) :
    (s.grant r u o).inExec = if r = .cp then s.inExec.map (fun e => { e with phase := .atTable }) else s.inExec := by
  cases r <;> rfl

/-- What is in execution after an effect: what was, nothing, the command granted, or what a take leaves. -/
theorem Effect.inExec (e : Effect i s t) : t.inExec = s.inExec ∨ t.inExec = none
    ∨ t.inExec = s.inExec.map (fun e => { e with phase := .atTable })
    ∨ CanTakeNow s ∧ Carried i s.nextDescriptor s.taken t := by
  cases e with
  | took can t carried => exact .inr (.inr (.inr ⟨can, carried⟩))
  | granted r u o n =>
    rw [State.grant_inExec]
    split
    · exact .inr (.inr (.inl rfl))
    · exact .inl rfl
  | seedGranted | domainGranted => exact .inr (.inr (.inl rfl))
  | positionEnded _ v m a =>
    rw [State.afterPosition_inExec]
    split
    · exact .inr (.inl rfl)
    · exact .inl rfl
  | poweredOn | portReset | commandCompleted => exact .inr (.inl rfl)
  | presentedDue | requested | faulted | answered | discarded | timerEnded | positionRestarted =>
    exact .inl (by simp)
  | producerWritten v => left; unfold State.writeCmdProducer; dsimp only; split <;> rfl
  | consumerWritten v => left; unfold State.writeCplConsumer; split <;> rfl
  | kept | initialised | ticked | causesCleared | enablesWritten | runWritten | slotWritten | timeRead | commandDropped
  | positionDropped | struck => exact .inl rfl

theorem Effect.execInv (e : Effect i s t) (law : ExecInv s) : ExecInv t := by
  rcases e.inExec with e | e | e | ⟨-, carried⟩
  · unfold ExecInv; rw [e]; exact law
  · unfold ExecInv; rw [e]; exact fun _ none_ => nomatch none_
  · unfold ExecInv
    rw [e]
    intro e' granted waiting
    obtain ⟨e, -, rfl⟩ := Option.map_eq_some_iff.mp granted
    cases waiting
  · unfold ExecInv
    rcases carried.inExec with e | ⟨e, checks⟩ | ⟨e, -⟩
    · rw [e]; exact fun _ none_ => nomatch none_
    · intro e' same _
      rw [← Option.some.inj (e.symm.trans same)]
      exact checks
    · intro e' same waiting
      rw [← Option.some.inj (e.symm.trans same)] at waiting
      cases waiting

/-! ### Settings in their ranges (sections 3.1, 3.4, 6.1) -/

theorem fieldAt_lt (d : Descriptor) (off size : Nat) : fieldAt d off size < 2 ^ (8 * size) := Nat.mod_lt _ (Nat.two_pow_pos _)

/-- The profile table in its ranges, profile 0 fixed (R48). -/
def ProfilesInRange (ps : Vector Profile 64) : Prop :=
  ps[0] = { rate := 0, burst := 0 } ∧ ∀ p : Fin 64, ps[p].rate ≤ 1048575 ∧ ps[p].burst ≤ 16777215

/-- A domain entry in its ranges (R39). -/
def DomainEntry.InRange (e : DomainEntry) : Prop :=
  e.learnLease ≤ 65535 ∧ 1 ≤ e.timeout ∧ e.timeout ≤ 65535 ∧ e.quota ≤ Config.slots

/-- The lease timer's registers in their ranges (section 6.1). -/
def Timer.InRange (l : Timer) : Prop :=
  1 ≤ l.divider ∧ l.divider ≤ 65536 ∧ l.dividerCount < l.divider ∧ l.timeBase ≤ Config.timeMax

theorem settingsInv_iff :
    SettingsInv s ↔ ProfilesInRange s.profiles ∧ (∀ n : Fin 16, s.domains[n].InRange) ∧ s.timer.InRange := by
  unfold SettingsInv ProfilesInRange Timer.InRange
  constructor
  · rintro ⟨zero, profiles, domains, timer⟩; exact ⟨⟨zero, profiles⟩, domains, timer⟩
  · rintro ⟨⟨zero, profiles⟩, domains, timer⟩; exact ⟨zero, profiles, domains, timer⟩

theorem SettingsInv.of_eq (law : SettingsInv s) (profiles : t.profiles = s.profiles) (domains : t.domains = s.domains)
    (timer : t.timer = s.timer) : SettingsInv t := by
  unfold SettingsInv
  rw [profiles, domains, timer]
  exact law

theorem DomainEntry.InRange.withFields {e : DomainEntry} (law : e.InRange) (checks : checkSetDomain d = true) :
    (e.withFields d).InRange := by
  obtain ⟨lease, low, high, quota⟩ := law
  simp only [checkSetDomain, Bool.and_eq_true, Bool.or_eq_true, Bool.not_eq_true', decide_eq_true_eq] at checks
  obtain ⟨⟨⟨⟨⟨⟨⟨-, -⟩, -⟩, timeoutGiven⟩, quotaGiven⟩, -⟩, -⟩, -⟩ := checks
  have leaseGiven := fieldAt_lt d 10 2
  have timeoutHigh := fieldAt_lt d 12 2
  refine ⟨?_, ?_, ?_, ?_⟩ <;> dsimp only [DomainEntry.withFields] <;> split
  · omega
  · exact lease
  next sel => simp only [sel, Bool.true_eq_false, false_or] at timeoutGiven; omega
  · exact low
  · omega
  · exact high
  next sel => simp only [sel, Bool.true_eq_false, false_or] at quotaGiven; exact quotaGiven
  · exact quota

theorem ProfilesInRange.set {ps : Vector Profile 64} (law : ProfilesInRange ps) {p : Fin 64} (other : p ≠ 0) {x : Profile}
    (rate : x.rate ≤ 1048575) (burst : x.burst ≤ 16777215) : ProfilesInRange (ps.set p.val x p.isLt) := by
  obtain ⟨zero, profiles⟩ := law
  have apart : p.val ≠ 0 := fun e => other (Fin.ext e)
  refine ⟨by simpa [apart] using zero, fun q => ?_⟩
  by_cases e : p.val = q.val
  · simp [e, rate, burst]
  · simpa [e] using profiles q

theorem setProfileAct_inRange (law : ProfilesInRange x.profiles) (checks : checkSetProfile d = true) :
    ProfilesInRange (setProfileAct d x).profiles := by
  simp only [checkSetProfile, Bool.and_eq_true, decide_eq_true_eq] at checks
  obtain ⟨⟨⟨some_, high⟩, rate⟩, burst⟩ := checks
  refine law.set (fun zero => some_ ?_) rate burst
  have := congrArg Fin.val zero
  simp only [profileOf, Fin.ofNat, Fin.val_zero] at this
  omega

theorem Timer.InRange.periods {l : Timer} (law : l.InRange) (n : Nat) : (l.periods n).InRange := by
  obtain ⟨low, high, count, now⟩ := law
  refine ⟨?_, ?_, ?_, (Timer.periods_timeBase n now).2⟩ <;> unfold Timer.periods <;> split
  · exact low
  · exact low
  · exact high
  · exact high
  · exact Nat.mod_lt _ low
  · exact count

theorem setTickAct_inRange (law : x.timer.InRange) (checks : checkSetTick d = true) : (setTickAct d x).timer.InRange := by
  obtain ⟨-, -, -, now⟩ := law
  simp only [checkSetTick, Bool.and_eq_true, decide_eq_true_eq] at checks
  obtain ⟨⟨low, high⟩, -⟩ := checks
  exact ⟨low, high, low, now⟩

theorem setTimeAct_inRange (law : x.timer.InRange) (checks : checkSetTime d = true) : (setTimeAct d x).timer.InRange := by
  obtain ⟨low, high, count, now⟩ := law
  have after := (setTimeAct_timeBase (x := x) checks now).2
  unfold setTimeAct at after ⊢
  split at after
  next back => rw [if_pos back]; exact ⟨low, high, count, after⟩
  next forward => rw [if_neg forward]; exact ⟨low, high, count, after⟩

theorem setTimeAct_settings : (setTimeAct d x).profiles = x.profiles ∧ (setTimeAct d x).domains = x.domains := by
  unfold setTimeAct
  split <;> exact ⟨rfl, rfl⟩

theorem Timer.InRange.waiting {l : Timer} (law : l.InRange) (w : Option (TimerOp × Nat)) :
    ({ l with waiting := w } : Timer).InRange := law

theorem State.presentDue_timer_inRange (law : s.timer.InRange) : s.presentDue.timer.InRange := by
  unfold State.presentDue
  split
  · exact law.waiting _
  · exact law

theorem State.grant_timer_inRange (law : s.timer.InRange) (r : Requester) (u : FlowTable) (o : OpOutcome) :
    (s.grant r u o).timer.InRange := by
  cases r <;> exact law

theorem settingsInv_reset : SettingsInv State.reset := by
  refine settingsInv_iff.mpr ⟨⟨?_, fun p => ?_⟩, fun n => ?_, ?_⟩
  · rfl
  · simp [State.reset]
  · simp [State.reset, DomainEntry.InRange, DomainEntry.powerOn, Config.slots]
  · simp [State.reset, Timer.InRange, Timer.powerOn]

/-- The settings stay in their ranges. -/
theorem Effect.settingsInv (e : Effect i s t) (law : SettingsInv s) (checked : ExecInv s) : SettingsInv t := by
  rcases e.tableSide with same | e
  · exact law.of_eq (congrArg TableSide.profiles same) (congrArg TableSide.domains same) (congrArg TableSide.timer same)
  · obtain ⟨profiles, domains, timer⟩ := settingsInv_iff.mp law
    apply settingsInv_iff.mpr
    cases e with
    | poweredOn => exact settingsInv_iff.mp settingsInv_reset
    | initialised | struck => exact ⟨profiles, domains, timer⟩
    | ticked _ n => exact ⟨profiles, domains, timer.periods n⟩
    | presentedDue x same =>
      rw [State.presentDue_profiles, State.presentDue_domains]
      have side : x.profiles = s.profiles ∧ x.domains = s.domains ∧ x.timer = s.timer :=
        ⟨congrArg TableSide.profiles same, congrArg TableSide.domains same, congrArg TableSide.timer same⟩
      obtain ⟨profiles', domains', timer'⟩ := side
      exact ⟨profiles' ▸ profiles, domains' ▸ domains, State.presentDue_timer_inRange (timer' ▸ timer)⟩
    | granted r u o n =>
      rw [State.grant_profiles, State.grant_domains]
      exact ⟨profiles, domains, State.grant_timer_inRange (s := { s with freeCount := n }) timer r u o⟩
    | seedGranted seed => exact ⟨profiles, domains, timer⟩
    | domainGranted d st r granted =>
      refine ⟨profiles, fun n => ?_, timer⟩
      have checks : checkSetDomain d = true := by
        simpa [checkFor, granted.2.2] using checked _ granted.2.1 rfl
      rw [State.grant_domains]
      by_cases e : (domainOf d).val = n.val
      · have own := (domains (domainOf d)).withFields checks
        simpa [State.domainWritten, e] using own
      · simpa [State.domainWritten, e] using domains n
    | profileSet d checks => exact ⟨setProfileAct_inRange (x := s.taken) profiles checks, domains, timer⟩
    | tickSet d checks => exact ⟨profiles, domains, setTickAct_inRange (x := s.taken) timer checks⟩
    | timeSet _ d checks =>
      obtain ⟨profiles', domains'⟩ := setTimeAct_settings (d := d) (x := s.taken)
      rw [profiles', domains']
      exact ⟨profiles, domains, setTimeAct_inRange (x := s.taken) timer checks⟩

/-! ### Quotas (R40, R46) -/

theorem FlowTable.count_initial (n : Fin 16) : FlowTable.initial.count n = 0 := by
  simp [FlowTable.count, FlowTable.initial]

theorem DomainEntry.quota_withFields (e : DomainEntry) (d : Descriptor) {n : Nat} (le : n ≤ e.quota)
    (given : ¬ (domainSelects d 8 = true ∧ fieldAt d 14 2 < n)) : n ≤ (e.withFields d).quota := by
  simp only [DomainEntry.withFields]
  split
  next sel => exact Nat.le_of_not_lt fun less => given ⟨sel, less⟩
  next => exact le

/-- No count comes to pass its quota: an operation moves the table within it, and a SET_DOMAIN is refused below the count. -/
theorem Effect.quotaLaw (e : Effect i s t) (law : QuotaLaw s) : QuotaLaw t := by
  rcases e.tableSide with same | e
  · unfold QuotaLaw
    rw [show t.table = s.table from congrArg TableSide.table same, show t.domains = s.domains from congrArg TableSide.domains same]
    exact law
  · cases e with
    | poweredOn => exact fun n => (FlowTable.count_initial n).trans_le (Nat.zero_le _)
    | initialised => exact fun n => (FlowTable.count_initial n).trans_le (Nat.zero_le _)
    | granted r u o n next moves =>
      intro k
      rw [State.grant_table, State.grant_domains]
      exact moves.count_le k (law k)
    | domainGranted d st r granted quota =>
      intro k
      rw [State.grant_table, State.grant_domains]
      by_cases e : (domainOf d).val = k.val
      · obtain rfl : domainOf d = k := Fin.ext e
        simpa [State.domainWritten] using DomainEntry.quota_withFields _ d (law (domainOf d)) quota
      · simpa [State.domainWritten, e] using law k
    | presentedDue x same =>
      unfold QuotaLaw
      rw [State.presentDue_table, State.presentDue_domains, show x.table = s.table from congrArg TableSide.table same,
        show x.domains = s.domains from congrArg TableSide.domains same]
      exact law
    | timeSet _ d =>
      unfold QuotaLaw
      rw [setTimeAct_table, setTimeAct_settings.2]
      exact law
    | seedGranted | ticked | profileSet | tickSet | struck => exact law

/-! ### Bodies and the canonical store (section 1.4) -/

theorem Body.zero_inRange : Body.zero.InRange := by
  simp [Body.InRange, Body.zero]

theorem Effect.bodiesInv (e : Effect i s t) (law : BodiesInv s) (checked : s.Checked) : BodiesInv t := by
  rcases e.table_cases with e | e | moves | ⟨h, -, e⟩
  · unfold BodiesInv; rw [e]; exact law
  · unfold BodiesInv; rw [e]; exact fun _ => Body.zero_inRange
  · exact moves.bodiesInRange checked law
  · unfold BodiesInv
    intro k
    rw [e]
    simp only [FlowTable.body, FlowTable.slot_setSlot]
    split
    · exact law h
    · exact law k

theorem Effect.store_wf (e : Effect i s t) (w : cellsWf Slot.powerOn s.table.slots) : cellsWf Slot.powerOn t.table.slots := by
  rcases e.table_cases with e | e | moves | ⟨h, -, e⟩
  · rw [e]; exact w
  · rw [e]; exact ⟨.nil, fun p m => nomatch m⟩
  · exact moves.canonical w
  · rw [e]; exact FlowTable.setSlot_wf _ h _ w

/-- The bounds after an effect. -/
theorem Effect.boundsInv (e : Effect i s t) (law : BoundsInv s) : BoundsInv t := by
  obtain ⟨quota, settings, checked, bodies, window, store⟩ := law
  exact ⟨e.quotaLaw quota, e.settingsInv settings checked, e.execInv checked, e.bodiesInv bodies ⟨settings, checked⟩,
    e.window_wf window, e.store_wf store⟩

/-- Settles O9: every effect keeps each of the bounds, and a clock period keeps the timer's. -/
theorem everyStepKeepsTheBounds : Obligations.EveryStepKeepsTheBounds := by
  unfold Obligations.EveryStepKeepsTheBounds
  intro s t law e
  refine step_keeps (P := BoundsInv) (fun _ _ p => p) (fun p => ?_) (fun i x t p e => e.boundsInv p) e law
  obtain ⟨quota, settings, checked, bodies, stores⟩ := p
  obtain ⟨profiles, domains, timer⟩ := settingsInv_iff.mp settings
  exact ⟨quota, settingsInv_iff.mpr ⟨profiles, domains, timer.periods 1⟩, checked, bodies, stores⟩

end Sys2Proof.Machine
end

section
/-! PROOF. What each effect does to one lookup channel, as a function of the channel and of whether it has an operation at the
table; and the law of the channels and the growth of the lanes over every step (R28, R59, R61 to R65, R68). -/

namespace Sys2Proof.Machine

variable {s t x : State} {i : Instr} {d : Descriptor} {c k : Fin 4} {ch ch' : Channel} {busy busy' : Bool}

/-! ### The functions of a channel -/

/-- A channel whose drain has ended (R68). -/
def Channel.drained (ch : Channel) : Channel :=
  { ({ ch with state := .disabled } : Channel).send [.closeNotice .host] with closePending := none }

/-- A channel after service of its queue (R63, R68). -/
def Channel.served (ch : Channel) (busy : Bool) : Channel :=
  if ch.serving && !busy then
    if !ch.answerBad.queue.isEmpty then { ch.answerBad with presented := true }
    else if ch.answerBad.state = .draining then ch.answerBad.answerWaiting.drained
    else ch.answerBad
  else ch

/-- A channel that has entered FAULT (R70). -/
def Channel.faulted (ch : Channel) (why : FaultReason) : Channel :=
  { ch.discard with
    state := .fault, faultReason := why, closePending := none, lane := ch.lane ++ [.closeNotice .fault] }

/-- A channel with a request at the tail of its queue (R62). -/
def Channel.queued (ch : Channel) (tag : Byte) (body : RequestBody) : Channel :=
  { ch with queue := ch.queue ++ [{ tag := tag, body := body, bad := badField body }], unanswered := ch.unanswered + 1 }

/-- A channel with an answer that waits behind the earlier ones (R68). -/
def Channel.answerLater (ch : Channel) (tag : Byte) : Channel :=
  { ch with waitingAnswers := ch.waitingAnswers ++ [tag], unanswered := ch.unanswered + 1 }

/-- A channel at which a well-formed request has arrived (R67, R68, R69, R71). -/
def Channel.arrived (ch : Channel) (busy : Bool) (tag : Byte) (body : RequestBody) : Channel :=
  match ch.state with
  | .disabled => ch.send [closedAnswer tag .disabled]
  | .fault => ch
  | .opened => if ch.unanswered < Config.credits then (ch.queued tag body).served busy else ch.faulted .overrun
  | .draining =>
    if ch.unanswered < Config.credits then
      if ch.unanswered = 0 then ch.send [closedAnswer tag .draining] else ch.answerLater tag
    else ch.faulted .overrun

/-- A channel after CHANNEL_CONTROL OPEN (R73). -/
def Channel.openedUp (ch : Channel) : Channel :=
  if ch.state = .disabled then
    ({ ch with state := .opened, queue := [], unanswered := 0 } : Channel).send [.creditGrant Config.credits]
  else ch

/-- A channel after CHANNEL_CONTROL CLOSE (R74). -/
def Channel.closed (ch : Channel) (busy : Bool) (tag : BitVec 16) : Channel :=
  if ch.state = .opened then
    if ch.unanswered > 0 || busy then { ch with state := .draining, closePending := some tag }
    else ({ ch with state := .disabled } : Channel).send [.closeNotice .host]
  else ch

/-- A channel after CHANNEL_CONTROL RESET (R75). -/
def Channel.resetDown (ch : Channel) : Channel :=
  { ch.discard with
    state := .disabled, faultReason := .none, closePending := none, lane := ch.lane ++ [.closeNotice .reset] }

/-! ### What the state's operations do to the channels -/

/-- The operation at the table, whether or not its result will count. -/
def State.place (s : State) : Option TableOp := s.opAtTable.map (fun op => { op with abandoned := false })

theorem State.atTable_iff_place (r : Requester) : s.atTable r = true ↔ ∃ op, s.place = some op ∧ op.requester = r := by
  unfold State.atTable State.place
  rcases s.opAtTable with _ | op <;> simp

theorem State.atTable_of_place (e : t.place = s.place) (r : Requester) : t.atTable r = s.atTable r := by
  rw [Bool.eq_iff_iff, State.atTable_iff_place, State.atTable_iff_place, e]

theorem State.place_of_op (e : t.opAtTable = s.opAtTable) : t.place = s.place := by rw [State.place, e]; rfl

@[simp] theorem State.abandon_place (s : State) (r : Requester) : (s.abandon r).place = s.place := by
  rw [State.abandon_eq]
  simp [State.place, Option.map_map, Function.comp_def]

@[simp] theorem State.abandon_atTable (r q : Requester) : (s.abandon r).atTable q = s.atTable q :=
  State.atTable_of_place (s.abandon_place r) q

@[simp] theorem State.setChan_place (ch : Channel) : (s.setChan c ch).place = s.place := rfl

@[simp] theorem State.endClose_place (st : Status) : (s.endClose c st).place = s.place := State.place_of_op (by simp)

@[simp] theorem State.serve_opAtTable : (s.serve c).opAtTable = s.opAtTable := by
  unfold State.serve
  dsimp only
  split_ifs <;> simp [State.endDrain]

@[simp] theorem State.faultChannel_place (why : FaultReason) : (s.faultChannel c why).place = s.place := by
  have latched : ∀ (y : State) b, (y.latch b).place = y.place := fun _ _ => rfl
  simp [State.faultChannel, latched]

@[simp] theorem State.requestArrives_place (tag : Byte) (body : RequestBody) :
    (s.requestArrives c tag body).place = s.place := by
  unfold State.requestArrives
  dsimp only
  split
  · rfl
  · rfl
  · split_ifs
    · exact State.place_of_op (by simp)
    · simp
  · split_ifs
    · rfl
    · rfl
    · simp

theorem State.endClose_chan (st : Status) (c k : Fin 4) :
    (s.endClose c st).chan k = if k = c then { s.chan c with closePending := none } else s.chan k := by
  split
  next e => rw [e, State.endClose_chan_same]
  next n =>
    rcases pending : (s.chan c).closePending with _ | tag
    · rw [State.endClose_none pending]
    · rw [State.endClose_some pending, State.post_chan, State.setChan_chan, if_neg n]

theorem State.endDrain_chan (c k : Fin 4) : (s.endDrain c).chan k = if k = c then (s.chan c).drained else s.chan k := by
  unfold State.endDrain
  rw [State.endClose_chan, State.setChan_chan_same, State.setChan_chan]
  split <;> rfl

theorem State.serve_chan (c k : Fin 4) :
    (s.serve c).chan k = if k = c then (s.chan c).served (s.atTable (.lc c)) else s.chan k := by
  by_cases e : k = c
  · subst e
    rw [if_pos rfl]
    unfold State.serve Channel.served
    dsimp only
    split_ifs <;> simp [State.endDrain_chan]
  · rw [if_neg e]
    unfold State.serve
    dsimp only
    split_ifs <;> simp [State.endDrain_chan, State.setChan_chan, e]

theorem State.faultChannel_chan (why : FaultReason) (c k : Fin 4) :
    (s.faultChannel c why).chan k = if k = c then (s.chan c).faulted why else s.chan k := by
  split
  next e => rw [e, State.faultChannel_chan_same]; rfl
  next n => simp [State.faultChannel, State.endClose_chan, State.setChan_chan, n]

theorem State.requestArrives_chan (tag : Byte) (body : RequestBody) (c k : Fin 4) :
    (s.requestArrives c tag body).chan k = if k = c then (s.chan c).arrived (s.atTable (.lc c)) tag body else s.chan k := by
  have atTable : ∀ ch, (s.setChan c ch).atTable (.lc c) = s.atTable (.lc c) := fun _ => rfl
  by_cases e : k = c
  · subst e
    rw [if_pos rfl]
    unfold State.requestArrives Channel.arrived
    dsimp only
    cases state : (s.chan k).state with
    | disabled => exact State.setChan_chan_same ..
    | fault => rfl
    | opened =>
      dsimp only
      split_ifs <;> simp [State.serve_chan, State.faultChannel_chan, atTable, Channel.queued, state]
    | draining =>
      dsimp only
      split_ifs <;> simp [State.faultChannel_chan, Channel.answerLater, state]
  · rw [if_neg e]
    unfold State.requestArrives
    dsimp only
    split
    · simp [State.setChan_chan, e]
    · rfl
    · split_ifs <;> simp [State.serve_chan, State.setChan_chan, State.faultChannel_chan, e]
    · split_ifs <;> simp [State.setChan_chan, State.faultChannel_chan, e]

/-! ### The turns of a channel -/

/-- What an effect can do to a channel, with whether the channel has an operation at the table before and after. -/
inductive Channel.Turn (ch : Channel) : Bool → Bool → Channel → Prop
  | kept (busy : Bool) : Turn ch busy busy ch
  | poweredOn (busy : Bool) : Turn ch busy false { Channel.powerOn with lane := ch.lane }
  | requested (busy : Bool) (tag : Byte) (body : RequestBody) : Turn ch busy busy (ch.arrived busy tag body)
  | faulted (busy : Bool) (why : FaultReason) : Turn ch busy busy (ch.faulted why)
  | granted (presented : ch.presented = true) : Turn ch false true { ch with presented := false }
  | answered (r : ServiceResult) : Turn ch true false ((ch.answerHead r).served false)
  | discarded : Turn ch true false (ch.served false)
  | opened (busy : Bool) : Turn ch busy busy ch.openedUp
  | closed (busy : Bool) (tag : BitVec 16) : Turn ch busy busy (ch.closed busy tag)
  | reset (busy : Bool) : Turn ch busy busy ch.resetDown
  | portReset (busy : Bool) : Turn ch busy busy ch.portReset

/-- The turn that an effect makes of a channel. -/
abbrev State.Turns (s t : State) (c : Fin 4) : Prop :=
  (s.chan c).Turn (s.atTable (.lc c)) (t.atTable (.lc c)) (t.chan c)

theorem State.Turns.of_same (chan : t.chan c = s.chan c) (place : t.place = s.place) : s.Turns t c := by
  unfold State.Turns
  rw [chan, State.atTable_of_place place]
  exact .kept _

/-- A turn of one channel, while the others keep theirs. -/
theorem State.Turns.of_one {f : Channel} (chan : ∀ k, t.chan k = if k = c then f else s.chan k) (place : t.place = s.place)
    (own : (s.chan c).Turn (s.atTable (.lc c)) (s.atTable (.lc c)) f) (k : Fin 4) : s.Turns t k := by
  by_cases e : k = c
  · subst e
    unfold State.Turns
    rw [chan, if_pos rfl, State.atTable_of_place place]
    exact own
  · exact .of_same (by rw [chan, if_neg e]) place

theorem State.completeControl_chan (st : Status) : (s.completeControl d st).chan k = s.chan k := rfl

theorem State.completeControl_place (st : Status) : (s.completeControl d st).place = s.place := rfl

theorem openChannel_place : (openChannel d x).place = x.place := by
  unfold openChannel
  dsimp only
  split <;> rfl

theorem closeChannel_place : (closeChannel d x).place = x.place := by
  unfold closeChannel
  dsimp only
  split
  · split <;> rfl
  all_goals rfl

theorem resetChannel_place : (resetChannel d x).place = x.place := by
  have unlatched : ∀ (y : State) b, (y.unlatch b).place = y.place := fun _ _ => rfl
  simp [resetChannel, State.completeControl_place, unlatched]

theorem openChannel_turns (d : Descriptor) (x : State) (k : Fin 4) : x.Turns (openChannel d x) k := by
  refine State.Turns.of_one (c := channelArg d) (f := (x.chan (channelArg d)).openedUp) (fun k => ?_) openChannel_place
    (.opened _) k
  unfold openChannel Channel.openedUp
  dsimp only
  split
  next e => rw [State.completeControl_chan, State.setChan_chan, if_pos e]
  all_goals
    next e =>
      rw [State.completeControl_chan, e]
      split
      next e => rw [e]; simp
      next => rfl

theorem closeChannel_turns (d : Descriptor) (x : State) (k : Fin 4) : x.Turns (closeChannel d x) k := by
  refine State.Turns.of_one (c := channelArg d)
    (f := (x.chan (channelArg d)).closed (x.atTable (.lc (channelArg d))) (tagOf d)) (fun k => ?_) closeChannel_place (.closed _ _) k
  unfold closeChannel Channel.closed
  dsimp only
  split
  next e =>
    rw [if_pos e]
    split
    · exact State.setChan_chan _ _ _ _
    · rw [State.completeControl_chan, State.setChan_chan]
  all_goals
    next e =>
      rw [State.completeControl_chan, e]
      split
      next e => rw [e]; simp
      next => rfl

theorem resetChannel_turns (d : Descriptor) (x : State) (k : Fin 4) : x.Turns (resetChannel d x) k := by
  refine State.Turns.of_one (c := channelArg d) (f := (x.chan (channelArg d)).resetDown) (fun k => ?_) resetChannel_place
    (.reset _) k
  simp only [resetChannel, State.completeControl_chan, State.unlatch_chan, State.abandon_chan, State.setChan_chan,
    State.endClose_chan]
  split
  · simp [Channel.resetDown, Channel.discard, Channel.send]
  · rfl

theorem Carried.place (e : Carried i d x t) : t.place = x.place := by
  cases e with
  | presented | completed | profileSet | tickSet => rfl
  | timeSet => unfold setTimeAct; split <;> rfl
  | channelOpened => exact openChannel_place
  | channelClosed => exact closeChannel_place
  | channelReset => exact resetChannel_place
  | sweepAccepted =>
    unfold sweepAccept
    split
    · exact State.place_of_op (by simp)
    all_goals rfl
  | sweepSuspended => unfold sweepSuspendAct; split <;> rfl
  | sweepResumed =>
    unfold sweepResumeAct
    split
    · exact State.place_of_op (by simp [State.completeSweep])
    all_goals rfl
  | sweepAborted =>
    unfold sweepAbortAct
    split
    · rfl
    · rfl
    · exact State.place_of_op (by simp [State.completeSweep])
    all_goals rfl

/-- A command that is taken acts on the channels as CHANNEL_CONTROL, or not at all. -/
theorem Carried.turns (e : Carried i d x t) (k : Fin 4) : x.Turns t k := by
  have place := e.place
  cases e with
  | presented | completed | profileSet | tickSet => exact .of_same rfl place
  | timeSet => exact .of_same (by unfold setTimeAct; split <;> rfl) place
  | channelOpened => exact openChannel_turns d x k
  | channelClosed => exact closeChannel_turns d x k
  | channelReset => exact resetChannel_turns d x k
  | sweepAccepted =>
    refine .of_same ?_ place
    unfold sweepAccept
    split
    · simp [State.chan]
    all_goals rfl
  | sweepSuspended => exact .of_same (by unfold sweepSuspendAct; split <;> rfl) place
  | sweepResumed =>
    refine .of_same ?_ place
    unfold sweepResumeAct
    split
    · simp [State.completeSweep, State.chan]
    all_goals rfl
  | sweepAborted =>
    refine .of_same ?_ place
    unfold sweepAbortAct
    split
    · rfl
    · rfl
    · simp [State.completeSweep, State.chan]
    all_goals rfl

theorem State.atTable_of_free (free : s.opAtTable = none) (r : Requester) : s.atTable r = false := by
  simp [State.atTable, free]

theorem State.atTable_other {r q : Requester} (own : s.atTable r = true) (apart : r ≠ q) : s.atTable q = false := by
  unfold State.atTable at own ⊢
  split at own
  next op atTable =>
    obtain rfl : op.requester = r := by simpa using own
    simpa [atTable] using apart
  next => cases own

theorem State.portReset_place : s.portReset.place = s.place := by
  simp [State.place, State.portReset, Option.map_map, Function.comp_def]

theorem State.atTable_of_op {op : TableOp} (e : s.opAtTable = some op) (r : Requester) :
    s.atTable r = decide (op.requester = r) := by
  simp [State.atTable, e]

theorem State.grant_chan_other (s : State) {r : Requester} {k : Fin 4} (apart : r ≠ .lc k) (u : FlowTable) (o : OpOutcome) :
    (s.grant r u o).chan k = s.chan k := by
  cases r with
  | lc c =>
    have other : k ≠ c := fun same => apart (by rw [same])
    exact (State.setChan_chan s c k _).trans (if_neg other)
  | cp | su | lt => rfl

/-- A grant is a turn of the channel granted, and of no other. -/
theorem State.Turns.grant {r : Requester} (next : s.nextGrant = some r) {y : State} (chan : ∀ k, y.chan k = s.chan k)
    (u : FlowTable) (o : OpOutcome) (k : Fin 4) : s.Turns (y.grant r u o) k := by
  obtain ⟨free, waits⟩ := State.nextGrant_some next
  unfold State.Turns
  rw [State.atTable_of_free free, State.atTable_of_op (State.grant_opAtTable ..)]
  by_cases e : r = .lc k
  · subst e
    have granted : (y.grant (.lc k) u o).chan k = { s.chan k with presented := false } := by
      rw [← chan k]
      exact State.setChan_chan_same y k _
    rw [granted]
    simpa using Channel.Turn.granted waits
  · have other : (y.grant r u o).chan k = s.chan k := (y.grant_chan_other e u o).trans (chan k)
    rw [other]
    simpa [e] using Channel.Turn.kept (ch := s.chan k) false

/-- The end of an operation of a requester that is not a channel. -/
theorem State.Turns.ended (chan : t.chan k = s.chan k) (free : t.opAtTable = none)
    (other : s.atTable (.lc k) = false) : s.Turns t k := by
  unfold State.Turns
  rw [chan, other, State.atTable_of_free free]
  exact .kept _

theorem State.afterPosition_chans : s.afterPosition.chans = s.chans := by
  unfold State.afterPosition State.endAbort
  split
  · split_ifs <;> simp
  · split_ifs <;> simp
  · split <;> simp [State.completeSweep]
  · rfl
  · rfl

theorem State.afterPosition_opAtTable : s.afterPosition.opAtTable = s.opAtTable := by
  unfold State.afterPosition State.endAbort
  split
  · split_ifs <;> simp
  · split_ifs <;> simp
  · split <;> simp [State.completeSweep]
  · rfl
  · rfl

theorem State.chan_of_chans (e : t.chans = s.chans) (k : Fin 4) : t.chan k = s.chan k := by
  unfold State.chan
  rw [e]

/-- The end of a channel's operation: the channel serves its queue with the table free (R63, R65). -/
theorem State.Turns.served {op : TableOp} (atTable : s.opAtTable = some op) (own : op.requester = .lc c) {f : Channel}
    (turn : (s.chan c).Turn true false (f.served false)) (k : Fin 4) : s.Turns ((s.endOp.setChan c f).serve c) k := by
  unfold State.Turns
  have after : ((s.endOp.setChan c f).serve c).atTable (.lc k) = false := State.atTable_of_free (by simp) _
  have free : (s.endOp.setChan c f).atTable (.lc c) = false := State.atTable_of_free (by simp) _
  rw [State.serve_chan, after, State.atTable_of_op atTable, own, State.setChan_chan_same, free]
  split
  next e => subst e; simpa using turn
  next n =>
    rw [State.setChan_chan, if_neg n]
    simpa [Ne.symm n] using Channel.Turn.kept (ch := s.chan k) false

/-- The turn of every channel at an effect. -/
theorem Effect.turns (e : Effect i s t) (k : Fin 4) : s.Turns t k := by
  cases e with
  | kept | initialised | ticked | causesCleared | enablesWritten | runWritten | slotWritten | timeRead | struck =>
    exact .of_same rfl rfl
  | poweredOn =>
    have chan : s.poweredOn.chan k = { Channel.powerOn with lane := (s.chan k).lane } := by
      simp [State.poweredOn, State.chan]
    unfold State.Turns
    rw [chan, State.atTable_of_free (s := s.poweredOn) rfl]
    exact .poweredOn _
  | presentedDue => exact .of_same (by simp [State.chan]) (State.place_of_op (by simp))
  | requested c tag body =>
    exact .of_one (State.requestArrives_chan tag body c) (by simp) (.requested _ tag body) k
  | faulted c why => exact .of_one (State.faultChannel_chan why c) (by simp) (.faulted _ why) k
  | granted r u o n next => exact .grant (y := { s with freeCount := n }) next (fun _ => rfl) u o k
  | seedGranted seed st r next => exact .grant (y := { s with seed := seed }) next (fun _ => rfl) s.table _ k
  | domainGranted d st r granted => exact .grant (y := s.domainWritten d) granted.1 (fun _ => rfl) s.table _ k
  | answered c _ r op => exact .served op rfl (.answered r) k
  | discarded c _ _ op =>
    have turn := State.Turns.served op rfl (f := s.chan c) .discarded k
    rwa [show s.endOp.setChan c (s.chan c) = s.endOp from State.setChan_self s.endOp c] at turn
  | commandDropped _ _ _ _ op => exact .ended rfl rfl (by simp [State.atTable_of_op op])
  | commandCompleted _ _ _ _ op => exact .ended rfl rfl (by simp [State.atTable_of_op op])
  | timerEnded atTable =>
    exact .ended (by simp [State.chan]) (by simp) (State.atTable_other atTable (by simp))
  | positionEnded _ v m a op =>
    exact .ended (State.chan_of_chans State.afterPosition_chans k) State.afterPosition_opAtTable
      (by simp [State.atTable_of_op op])
  | positionRestarted _ _ _ _ op => exact .ended (by simp [State.chan]) (by simp) (by simp [State.atTable_of_op op])
  | positionDropped _ _ _ _ op => exact .ended rfl rfl (by simp [State.atTable_of_op op])
  | took can t carried => exact carried.turns k
  | producerWritten v => unfold State.writeCmdProducer; dsimp only; split <;> exact .of_same rfl rfl
  | consumerWritten v => unfold State.writeCplConsumer; split <;> exact .of_same rfl rfl
  | portReset run =>
    unfold State.Turns
    have chan : ({ s with port := { s.port with run := run } } : State).portReset.chan k = (s.chan k).portReset := by
      simp [State.portReset, State.chan]
    rw [chan, State.atTable_of_place State.portReset_place]
    exact .portReset _

/-! ### The lanes (R59) -/

/-- The frames of a channel's lane stand before those of another. -/
def Channel.Extends (ch ch' : Channel) : Prop := ∃ fs, ch'.lane = ch.lane ++ fs

theorem Channel.Extends.refl (ch : Channel) : ch.Extends ch := ⟨[], (List.append_nil _).symm⟩

theorem Channel.Extends.trans {a b c : Channel} (x : a.Extends b) (y : b.Extends c) : a.Extends c := by
  obtain ⟨fs, e⟩ := x
  obtain ⟨gs, e'⟩ := y
  exact ⟨fs ++ gs, by rw [e', e, List.append_assoc]⟩

theorem Channel.extends_served (ch : Channel) (busy : Bool) : ch.Extends (ch.served busy) := by
  have answered : ch.Extends ch.answerBad := ⟨_, rfl⟩
  unfold Channel.served
  split_ifs
  · exact answered
  · exact answered.trans (Channel.Extends.trans (b := ch.answerBad.answerWaiting) ⟨_, rfl⟩ ⟨_, rfl⟩)
  · exact answered
  · exact .refl ch

theorem Channel.extends_arrived (ch : Channel) (busy : Bool) (tag : Byte) (body : RequestBody) :
    ch.Extends (ch.arrived busy tag body) := by
  unfold Channel.arrived
  split
  · exact ⟨_, rfl⟩
  · exact .refl ch
  · split
    · exact Channel.Extends.trans (b := ch.queued tag body) (.refl ch) (Channel.extends_served _ _)
    · exact ⟨_, rfl⟩
  · split_ifs
    · exact ⟨_, rfl⟩
    · exact .refl ch
    · exact ⟨_, rfl⟩

theorem Channel.Turn.extends (turn : ch.Turn busy busy' ch') : ch.Extends ch' := by
  cases turn with
  | kept | poweredOn | granted => exact .refl ch
  | requested _ tag body => exact ch.extends_arrived busy tag body
  | faulted | reset => exact ⟨_, rfl⟩
  | answered r =>
    refine Channel.Extends.trans (b := ch.answerHead r) ?_ (Channel.extends_served _ false)
    unfold Channel.answerHead
    split
    · exact .refl ch
    · exact ⟨_, rfl⟩
  | discarded => exact ch.extends_served false
  | opened =>
    unfold Channel.openedUp
    split
    · exact ⟨_, rfl⟩
    · exact .refl ch
  | closed =>
    unfold Channel.closed
    split_ifs
    · exact .refl ch
    · exact ⟨_, rfl⟩
    · exact .refl ch
  | portReset =>
    unfold Channel.portReset
    split
    · exact ⟨_, rfl⟩
    all_goals exact .refl ch

/-- A frame that arrives on one channel changes no other. -/
theorem State.frameArrives_chan_other (f : List Byte) (other : k ≠ c) : (s.frameArrives c f).chan k = s.chan k := by
  unfold State.frameArrives
  split
  · split
    · rw [State.faultChannel_chan, if_neg other]
    · rfl
  · rw [State.requestArrives_chan, if_neg other]

/-- Settles O12: every turn of a channel leaves its lane with frames behind, and an arrival is a turn of one channel. -/
theorem lanesOnlyGrow : Obligations.LanesOnlyGrow := by
  unfold Obligations.LanesOnlyGrow
  refine ⟨fun i s t e c => ((exec_effect e).turns c).extends, fun s t c k tag domain learnFlag generation length handle ticks
    key frame other e => ?_⟩
  have request : ∀ body, (s.requestArrives c tag body).chan k = s.chan k :=
    fun body => by rw [State.requestArrives_chan, if_neg other]
  rcases e with e | e | e | e
  · cases e; exact request _
  · cases e; exact request _
  · cases e; exact request _
  · cases e; exact State.frameArrives_chan_other frame other

/-! ### The law of a channel (R28, R61 to R65, R68) -/

/-- What holds of a channel's queue and count at any moment. -/
structure Channel.Counted (ch : Channel) : Prop where
  out : ch.serving = false → ch.queue = [] ∧ ch.waitingAnswers = [] ∧ ch.unanswered = 0 ∧ ch.presented = false
  opened : ch.state = .opened → ch.waitingAnswers = []
  count : ch.queue.length + ch.waitingAnswers.length = ch.unanswered
  credits : ch.unanswered ≤ Config.credits
  good : ch.presented = true → ∃ r q, ch.queue = r :: q ∧ r.bad = none

/-- The law of a channel, given whether it has an operation at the table. -/
structure Channel.Lawful (ch : Channel) (busy : Bool) : Prop extends ch.Counted where
  alone : ch.presented = true → busy = false
  waits : ch.serving = true → busy = false → ch.queue ≠ [] → ch.presented = true
  draining : ch.state = .draining → busy = false → ch.queue ≠ []

theorem channelInv_iff : ChannelInv s c ↔ (s.chan c).Lawful (s.atTable (.lc c)) := by
  constructor
  · rintro ⟨out, opened, count, credits, presented, waits, draining⟩
    exact ⟨⟨out, opened, count, credits, fun p => (presented p).2⟩, fun p => (presented p).1, waits, draining⟩
  · intro law
    exact ⟨law.out, law.opened, law.count, law.credits, fun p => ⟨law.alone p, law.good p⟩, law.waits, law.draining⟩

/-- A channel out of service with nothing in it is lawful. -/
theorem Channel.Lawful.of_empty (out : ch.serving = false) (queue : ch.queue = []) (waiting : ch.waitingAnswers = [])
    (count : ch.unanswered = 0) (presented : ch.presented = false) : ch.Lawful busy := by
  have state : ch.state ≠ .opened ∧ ch.state ≠ .draining := by simpa [Channel.serving] using out
  refine ⟨⟨fun _ => ⟨queue, waiting, count, presented⟩, fun o => absurd o state.1, ?_, ?_, ?_⟩, ?_, ?_,
    fun d => absurd d state.2⟩
  · simp [queue, waiting, count]
  · simp [count]
  · simp [presented]
  · simp [presented]
  · simp [out]

/-- Bad requests are answered off the head of the queue; what is presented is no bad request. -/
theorem Channel.Counted.answerBad (law : ch.Counted) : ch.answerBad.Counted
    ∧ (ch.answerBad.queue = [] → ch.answerBad.presented = false)
    ∧ ∀ r q, ch.answerBad.queue = r :: q → r.bad = none := by
  have lengths := splitBad_length ch.queue
  obtain ⟨bads, -, -, -, head⟩ := splitBad_spec ch.queue
  have head' : ∀ r q, ch.answerBad.queue = r :: q → r.bad = none := fun r q e =>
    head r (by rw [show (splitBad ch.queue).2 = r :: q from e]; rfl)
  have kept : ch.presented = true → ch.answerBad.queue = ch.queue := fun p => by
    obtain ⟨r, q, queue, good⟩ := law.good p
    simp [Channel.answerBad, queue, splitBad, good]
  refine ⟨⟨fun out => ?_, law.opened, ?_, ?_, fun p => ?_⟩, fun empty => ?_, head'⟩
  · obtain ⟨queue, waiting, count, presented⟩ := law.out out
    exact ⟨by simp [Channel.answerBad, queue, splitBad], waiting, by simp [Channel.answerBad, count], presented⟩
  · have := law.count
    simp only [Channel.answerBad]
    omega
  · exact (Nat.sub_le _ _).trans law.credits
  · rw [kept p]; exact law.good p
  · by_contra presented
    have p : ch.presented = true := by simpa [Channel.answerBad] using presented
    obtain ⟨r, q, queue, -⟩ := law.good p
    rw [kept p, queue] at empty
    cases empty

/-- Service with the table free makes a channel lawful. -/
theorem Channel.Counted.served (law : ch.Counted) : (ch.served false).Lawful false := by
  unfold Channel.served
  split
  next serving =>
    obtain ⟨answered, idle, head⟩ := law.answerBad
    split
    next some_ =>
      have nonempty : ch.answerBad.queue ≠ [] := by simpa using some_
      obtain ⟨r, q, queue⟩ := List.exists_cons_of_ne_nil nonempty
      exact ⟨⟨fun out => absurd serving (by simp [show ch.serving = false from out]), answered.opened, answered.count,
        answered.credits, fun _ => ⟨r, q, queue, head r q queue⟩⟩, fun _ => rfl, fun _ _ _ => rfl, fun _ _ => nonempty⟩
    next none_ =>
      have empty : ch.answerBad.queue = [] := by simpa using none_
      have count := answered.count
      split
      next draining =>
        refine .of_empty rfl empty rfl ?_ (idle empty)
        simp only [Channel.drained, Channel.answerWaiting, Channel.send]
        simp only [empty, List.length_nil] at count
        omega
      next other =>
        exact ⟨answered, fun p => (Bool.false_ne_true ((idle empty).symm.trans p)).elim,
          fun _ _ n => absurd empty n, fun d => absurd d other⟩
  next out =>
    have out : ch.serving = false := by simpa using out
    obtain ⟨queue, waiting, count, presented⟩ := law.out out
    exact .of_empty out queue waiting count presented

/-- A channel with its operation at the table is lawful while it presents nothing. -/
theorem Channel.Counted.operating (law : ch.Counted) (presented : ch.presented = false) : ch.Lawful true :=
  ⟨law, fun p => (Bool.false_ne_true (presented.symm.trans p)).elim, (fun _ b => nomatch b), fun _ b => nomatch b⟩

theorem Channel.Counted.queued (law : ch.Counted) (opened : ch.state = .opened) (room : ch.unanswered < Config.credits)
    (tag : Byte) (body : RequestBody) : (ch.queued tag body).Counted := by
  have count := law.count
  refine ⟨fun out => absurd out (by simp [Channel.queued, Channel.serving, opened]), law.opened, ?_, room, fun p => ?_⟩
  · simp only [Channel.queued, List.length_append, List.length_singleton]
    omega
  · obtain ⟨r, q, queue, good⟩ := law.good p
    exact ⟨r, q ++ [⟨tag, body, badField body⟩], by simp [Channel.queued, queue], good⟩

theorem Channel.Counted.answerHead (law : ch.Counted) (presented : ch.presented = false) (r : ServiceResult) :
    (ch.answerHead r).Counted := by
  unfold Channel.answerHead
  split
  next => exact law
  next q qs queue =>
    have count := law.count
    simp only [queue, List.length_cons] at count
    refine ⟨fun out => absurd (law.out out).1 (by simp [queue]), law.opened, ?_, (Nat.sub_le _ _).trans law.credits,
      fun p => (Bool.false_ne_true (presented.symm.trans p)).elim⟩
    simp only
    omega

theorem Channel.Counted.send (law : ch.Counted) (fs : List OutFrame) : (ch.send fs).Counted :=
  ⟨law.out, law.opened, law.count, law.credits, law.good⟩

theorem Channel.Lawful.send (law : ch.Lawful busy) (fs : List OutFrame) : (ch.send fs).Lawful busy :=
  ⟨law.toCounted.send fs, law.alone, law.waits, law.draining⟩

theorem Channel.Lawful.presented_of_busy (law : ch.Lawful true) : ch.presented = false := by
  by_contra p
  exact absurd (law.alone (by simpa using p)) (by simp)

theorem Channel.Lawful.faulted (ch : Channel) (why : FaultReason) : (ch.faulted why).Lawful busy :=
  .of_empty rfl rfl rfl rfl rfl

theorem Channel.Lawful.arrived (law : ch.Lawful busy) (tag : Byte) (body : RequestBody) :
    (ch.arrived busy tag body).Lawful busy := by
  unfold Channel.arrived
  split
  · exact law.send _
  · exact law
  next opened =>
    split
    next room =>
      have queued := law.toCounted.queued opened room tag body
      cases busy with
      | false => exact queued.served
      | true => simpa [Channel.served] using queued.operating law.presented_of_busy
    next => exact .faulted ch .overrun
  next draining =>
    split_ifs with room none_
    · exact law.send _
    · have count := law.count
      refine ⟨⟨fun out => absurd out (by simp [Channel.answerLater, Channel.serving, draining]),
        fun opened => absurd opened (by simp [Channel.answerLater, draining]), ?_, room, law.good⟩, law.alone, law.waits,
        law.draining⟩
      simp only [Channel.answerLater, List.length_append, List.length_singleton]
      omega
    · exact .faulted ch .overrun

theorem Channel.Lawful.openedUp (law : ch.Lawful busy) : ch.openedUp.Lawful busy := by
  unfold Channel.openedUp
  split
  next disabled =>
    obtain ⟨queue, waiting, count, presented⟩ := law.out (by simp [Channel.serving, disabled])
    refine ⟨⟨fun out => absurd out (by simp [Channel.serving, Channel.send]), fun _ => waiting, ?_, Nat.zero_le _, ?_⟩, ?_, ?_, ?_⟩
    · simp [Channel.send, waiting]
    · simp [Channel.send, presented]
    · simp [Channel.send, presented]
    · simp [Channel.send]
    · simp [Channel.send]
  next => exact law

theorem Channel.Lawful.closed (law : ch.Lawful busy) (tag : BitVec 16) : (ch.closed busy tag).Lawful busy := by
  unfold Channel.closed
  split
  next opened =>
    have waiting := law.opened opened
    have count := law.count
    have serving : ch.serving = true := by simp [Channel.serving, opened]
    simp only [waiting, List.length_nil, Nat.add_zero] at count
    split
    next work =>
      refine ⟨⟨(fun out => nomatch out), (fun o => nomatch o), law.count, law.credits, law.good⟩, law.alone,
        fun _ => law.waits serving, fun _ free empty => ?_⟩
      have none_ : ch.unanswered = 0 := by rw [← count, show ch.queue = [] from empty]; rfl
      simp [none_, free] at work
    next idle =>
      simp only [gt_iff_lt, Bool.or_eq_true, decide_eq_true_eq, not_or, Nat.not_lt, Nat.le_zero] at idle
      obtain ⟨none_, free⟩ := idle
      have empty : ch.queue = [] := List.eq_nil_of_length_eq_zero (count.trans none_)
      refine .of_empty rfl empty waiting none_ ?_
      by_contra p
      obtain ⟨r, q, queue, -⟩ := law.good (by simpa [Channel.send] using p)
      rw [empty] at queue
      cases queue
  next => exact law

theorem Channel.Lawful.portReset (law : ch.Lawful busy) : ch.portReset.Lawful busy := by
  unfold Channel.portReset
  split
  · exact .of_empty rfl rfl rfl rfl rfl
  all_goals exact law

/-- Every turn keeps the law of its channel. -/
theorem Channel.Turn.lawful (turn : ch.Turn busy busy' ch') (law : ch.Lawful busy) : ch'.Lawful busy' := by
  cases turn with
  | kept => exact law
  | poweredOn => exact .of_empty rfl rfl rfl rfl rfl
  | requested _ tag body => exact law.arrived tag body
  | faulted _ why => exact .faulted ch why
  | granted presented =>
    refine Channel.Counted.operating (ch := { ch with presented := false }) ⟨fun out => ?_, law.opened, law.count, law.credits, ?_⟩ rfl
    · obtain ⟨queue, waiting, count, -⟩ := law.out out
      exact ⟨queue, waiting, count, rfl⟩
    · exact fun p => nomatch p
  | answered r => exact (law.toCounted.answerHead law.presented_of_busy r).served
  | discarded => exact law.toCounted.served
  | opened => exact law.openedUp
  | closed _ tag => exact law.closed tag
  | reset => exact .of_empty rfl rfl rfl rfl rfl
  | portReset => exact law.portReset

/-- Settles O6: every effect is a turn of each channel, and every turn keeps the law of its channel. -/
theorem everyStepKeepsTheChannelLaw : Obligations.EveryStepKeepsTheChannelLaw := by
  unfold Obligations.EveryStepKeepsTheChannelLaw
  intro s t law e
  exact step_keeps (P := fun s => ∀ c, ChannelInv s c) (fun _ _ p => p) id
    (fun i x t p e c => channelInv_iff.mpr ((e.turns c).lawful (channelInv_iff.mp (p c)))) e law

end Sys2Proof.Machine
end

section
/-! PROOF. What each effect does to the sweep unit, as a function of the unit, of its operation at the table and of a SWEEP_ABORT
in execution; and the law of the management path and of the sweep unit over every step (R143 to R149, R167 to R178). -/

namespace Sys2Proof.Machine

variable {s t x : State} {i : Instr} {d : Descriptor} {sound : Prop}

/-! ### The functions of the sweep unit -/

/-- The sweep unit with the position at its cursor presented, unless it still has one at the table (R169, R178). -/
def Sweep.presenting (w : Sweep) (flight : Option Bool) : Sweep :=
  if flight.isSome then w else { w with presented := true }

/-- The sweep unit with a position's counts added (R169). -/
def Sweep.counted (w : Sweep) (v m a : Nat) : Sweep :=
  { w with cursor := w.cursor + 1, visited := w.visited + v, matched := w.matched + m, acted := w.acted + a }

/-- The sweep unit with its walk over and no command pending (R174, R177). -/
def Sweep.over (w : Sweep) : Sweep := { w with state := .idle, pendingSweep := none, pendingSuspend := none }

/-- The sweep unit after the end of a position, its counts added (R169, R174, R175, R177). -/
def Sweep.advanced (w : Sweep) : Sweep :=
  match w.state with
  | .running =>
    if w.cursor < Config.walkEnd then { w with presented := true } else { w with state := .idle, pendingSweep := none }
  | .suspending =>
    if w.cursor < Config.walkEnd then { w with state := .suspended, pendingSuspend := none } else w.over
  | .aborting => w.over
  | .idle | .suspended => w

/-- The sweep unit with a walk accepted (R168). -/
def Sweep.accepted (w : Sweep) (params : SweepParams) (tag : BitVec 16) : Sweep :=
  { w with
    state := .running, cursor := 0, visited := 0, matched := 0, acted := 0, params := params, pendingSweep := some tag }

/-- The sweep unit after a port reset (R178). -/
def Sweep.portReset (w : Sweep) : Sweep :=
  { w with state := .idle, pendingSweep := none, pendingSuspend := none, presented := false }

/-! ### The sweep unit in a state -/

/-- The sweep unit's operation at the table, by whether it is abandoned. -/
def State.flight (s : State) : Option Bool :=
  s.opAtTable.bind (fun op => if op.requester = .su then some op.abandoned else none)

/-- Whether a SWEEP_ABORT in execution waits for the position in flight (R177). -/
def State.aborts (s : State) : Bool := s.inExec.any (fun e => e.phase = .aborting)

theorem State.atTable_su : s.atTable .su = s.flight.isSome := by
  unfold State.atTable State.flight
  rcases s.opAtTable with _ | op
  · rfl
  · by_cases e : op.requester = .su <;> simp [e]

theorem State.flight_of_free (free : s.opAtTable = none) : s.flight = none := by simp [State.flight, free]

theorem State.flight_of_op (same : t.opAtTable = s.opAtTable) : t.flight = s.flight := by rw [State.flight, same]; rfl

theorem State.flight_at {op : TableOp} (e : s.opAtTable = some op) :
    s.flight = if op.requester = .su then some op.abandoned else none := by
  simp [State.flight, e]

theorem State.aborts_of_exec (same : t.inExec = s.inExec) : t.aborts = s.aborts := by rw [State.aborts, same]; rfl

theorem State.aborts_of_none (none_ : s.inExec = none) : s.aborts = false := by simp [State.aborts, none_]

theorem State.presentPosition_sweep : s.presentPosition.sweep = s.sweep.presenting s.flight := by
  unfold State.presentPosition Sweep.presenting
  rw [State.atTable_su]
  split <;> rfl

@[simp] theorem State.endSweep_sweep (st : Status) : (s.endSweep st).sweep = { s.sweep with pendingSweep := none } := by
  rcases pending : s.sweep.pendingSweep with _ | tag
  · rw [State.endSweep_none pending, ← pending]
  · rw [State.endSweep_some pending]; rfl

@[simp] theorem State.endSuspend_sweep (st : Status) : (s.endSuspend st).sweep = { s.sweep with pendingSuspend := none } := by
  rcases pending : s.sweep.pendingSuspend with _ | tag
  · rw [State.endSuspend_none pending, ← pending]
  · rw [State.endSuspend_some pending]; rfl

theorem State.endAbort_sweep : s.endAbort.sweep = s.sweep := by
  unfold State.endAbort
  split <;> rfl

theorem State.afterPosition_sweep (free : s.opAtTable = none) : s.afterPosition.sweep = s.sweep.advanced := by
  unfold State.afterPosition Sweep.advanced
  cases state : s.sweep.state with
  | running =>
    dsimp only
    split
    · rw [State.presentPosition_sweep, State.flight_of_free free]; simp [Sweep.presenting, state]
    · simp
  | suspending =>
    dsimp only
    split <;> simp [Sweep.over]
  | aborting => simp [State.endAbort_sweep, Sweep.over]
  | idle | suspended => rfl

@[simp] theorem State.serve_sweep (c : Fin 4) : (s.serve c).sweep = s.sweep := by
  unfold State.serve
  dsimp only
  split_ifs <;> simp [State.endDrain]

@[simp] theorem State.faultChannel_sweep (c : Fin 4) (why : FaultReason) : (s.faultChannel c why).sweep = s.sweep := by
  simp [State.faultChannel]

@[simp] theorem State.requestArrives_sweep (c : Fin 4) (tag : Byte) (body : RequestBody) :
    (s.requestArrives c tag body).sweep = s.sweep := by
  unfold State.requestArrives
  dsimp only
  split
  · rfl
  · rfl
  · split_ifs <;> simp
  · split_ifs <;> simp

/-! ### The turns of the sweep unit -/

/-- The sweep unit with what a turn of it depends on. -/
structure Walk where
  unit : Sweep
  flight : Option Bool
  aborts : Bool

/-- The sweep unit of a state. -/
def State.walk (s : State) : Walk := ⟨s.sweep, s.flight, s.aborts⟩

/-- What an effect can do to the sweep unit; `sound` stands for the law of the command in execution. -/
inductive Walk.Turn (x : Walk) (sound : Prop) : Walk → Prop
  | kept : Turn x sound x
  | completed (alone : sound → x.aborts = false) : Turn x sound ⟨x.unit, x.flight, false⟩
  | poweredOn : Turn x sound ⟨Sweep.powerOn, none, false⟩
  | granted (free : x.flight = none) (presented : x.unit.presented = true) :
      Turn x sound ⟨{ x.unit with presented := false }, some false, x.aborts⟩
  | ended (v m a : Nat) (atTable : x.flight = some false) :
      Turn x sound ⟨(x.unit.counted v m a).advanced, none, if x.unit.state = .aborting then false else x.aborts⟩
  | restarted (walking : x.unit.state.walking = true) (atTable : x.flight = some true) :
      Turn x sound ⟨{ x.unit with presented := true }, none, x.aborts⟩
  | dropped (resting : x.unit.state.walking = false) (atTable : x.flight = some true) : Turn x sound ⟨x.unit, none, x.aborts⟩
  | accepted (idle : x.unit.state = .idle) (alone : x.aborts = false) (params : SweepParams) (tag : BitVec 16) :
      Turn x sound ⟨(x.unit.accepted params tag).presenting x.flight, x.flight, false⟩
  | suspended (running : x.unit.state = .running) (alone : x.aborts = false) (tag : BitVec 16) :
      Turn x sound ⟨{ x.unit with state := .suspending, pendingSuspend := some tag }, x.flight, false⟩
  | resumed (suspended : x.unit.state = .suspended) (alone : x.aborts = false) :
      Turn x sound ⟨({ x.unit with state := .running } : Sweep).presenting x.flight, x.flight, false⟩
  | aborting (walking : x.unit.state = .running ∨ x.unit.state = .suspending) :
      Turn x sound ⟨{ x.unit with state := .aborting }, x.flight, true⟩
  | aborted (suspended : x.unit.state = .suspended) (alone : x.aborts = false) :
      Turn x sound ⟨{ x.unit with state := .idle, pendingSweep := none }, x.flight, false⟩
  | portReset : Turn x sound ⟨x.unit.portReset, x.flight.map (fun _ => true), false⟩

theorem State.walk_turn {unit : Sweep} {flight : Option Bool} {aborts : Bool} (e : t.sweep = unit) (f : t.flight = flight)
    (a : t.aborts = aborts) (turn : s.walk.Turn sound ⟨unit, flight, aborts⟩) : s.walk.Turn sound t.walk := by
  subst e f a
  exact turn

/-- Where the unit, its operation and the SWEEP_ABORT are as before. -/
theorem State.walk_of_same (sweep : t.sweep = s.sweep) (flight : t.flight = s.flight) (aborts : t.aborts = s.aborts) :
    s.walk.Turn sound t.walk := by
  rw [State.walk, State.walk, sweep, flight, aborts]
  exact .kept

/-- The command in execution, when its operation is at the table or it waits for a position in flight (R147, R177). -/
structure State.ExecLaw (s : State) : Prop where
  abort : ∀ e, s.inExec = some e → e.phase = .aborting → kindOf e.desc = 23#8 ∧ s.atTable .cp = false
  position : ∀ op, s.opAtTable = some op → op.requester = .su → ∃ v m a, op.outcome = .position v m a

theorem State.ExecLaw.alone (law : s.ExecLaw) (cp : s.atTable .cp = true) : s.aborts = false := by
  unfold State.aborts
  rcases exec : s.inExec with _ | e
  · rfl
  · have phase : e.phase ≠ .aborting := fun phase => by simp [(law.abort e exec phase).2] at cp
    simpa using phase

theorem CanTakeNow.alone (can : CanTakeNow s) : s.aborts = false := by
  obtain ⟨-, -, none_, -⟩ := can
  exact State.aborts_of_none none_

@[simp] theorem State.abandon_flight (s : State) (c : Fin 4) : (s.abandon (.lc c)).flight = s.flight := by
  rw [State.abandon_eq]
  unfold State.flight
  rcases s.opAtTable with _ | op
  · rfl
  · by_cases e : op.requester = .su <;> simp [e]

theorem State.faultChannel_flight (c : Fin 4) (why : FaultReason) : (s.faultChannel c why).flight = s.flight := by
  exact (State.flight_of_op (State.endClose_opAtTable _ c .aborted)).trans (State.abandon_flight (s.setChan c _) c)

theorem State.requestArrives_flight (c : Fin 4) (tag : Byte) (body : RequestBody) :
    (s.requestArrives c tag body).flight = s.flight := by
  unfold State.requestArrives
  dsimp only
  split
  · rfl
  · rfl
  · split
    · exact State.flight_of_op (by simp)
    · exact State.faultChannel_flight c _
  · split_ifs
    · rfl
    · rfl
    · exact State.faultChannel_flight c _

theorem resetChannel_flight : (resetChannel d x).flight = x.flight :=
  (State.flight_of_op rfl).trans <| (State.abandon_flight _ _).trans (State.flight_of_op (by simp))

theorem resetChannel_sweep : (resetChannel d x).sweep = x.sweep := by simp [resetChannel, State.completeControl]

/-- The turn of the sweep unit when a command is taken with no SWEEP_ABORT in execution. -/
theorem Carried.walk (e : Carried i d s.taken t) (alone : s.aborts = false) : s.walk.Turn sound t.walk := by
  have same : ∀ {y : State}, y.sweep = s.sweep → y.flight = s.flight → y.aborts = false → s.walk.Turn sound y.walk :=
    fun sweep flight aborts => State.walk_of_same sweep flight (aborts.trans alone.symm)
  cases e with
  | presented | completed | profileSet | tickSet => exact same rfl rfl rfl
  | timeSet => unfold setTimeAct; split <;> exact same rfl rfl rfl
  | channelOpened => unfold openChannel; dsimp only; split <;> exact same rfl rfl rfl
  | channelClosed =>
    unfold closeChannel; dsimp only
    split
    · split <;> exact same rfl rfl rfl
    all_goals exact same rfl rfl rfl
  | channelReset => exact same resetChannel_sweep resetChannel_flight rfl
  | sweepAccepted =>
    unfold sweepAccept
    split
    next idle =>
      exact State.walk_turn State.presentPosition_sweep (State.flight_of_op (by simp)) (State.aborts_of_none (by simp))
        (.accepted idle alone _ _)
    all_goals exact same rfl rfl rfl
  | sweepSuspended =>
    unfold sweepSuspendAct
    split
    next running => exact State.walk_turn rfl rfl rfl (.suspended running alone _)
    all_goals exact same rfl rfl rfl
  | sweepResumed =>
    unfold sweepResumeAct
    split
    next suspended =>
      exact State.walk_turn (State.presentPosition_sweep (s := s.taken.setSweepState .running))
        (State.flight_of_op (by simp [State.completeSweep])) rfl (.resumed suspended alone)
    all_goals exact same rfl rfl rfl
  | sweepAborted =>
    have aborting : s.sweep.state = .running ∨ s.sweep.state = .suspending → s.walk.Turn sound
        ({ s.taken.setSweepState .aborting with inExec := some { desc := d, phase := .aborting } } : State).walk :=
      fun walking => State.walk_turn rfl rfl rfl (.aborting walking)
    unfold sweepAbortAct
    split
    next running => exact aborting (.inl running)
    next suspending => exact aborting (.inr suspending)
    next suspended =>
      exact State.walk_turn (unit := { s.sweep with state := .idle, pendingSweep := none }) (by simp [State.completeSweep])
        (State.flight_of_op (by simp [State.completeSweep])) rfl (.aborted suspended alone)
    all_goals exact same rfl rfl rfl

theorem State.grant_flight (y : State) (r : Requester) (u : FlowTable) (o : OpOutcome) :
    (y.grant r u o).flight = if r = .su then some false else none := State.flight_at (State.grant_opAtTable ..)

/-- A grant is a turn of the sweep unit when it is the unit's own. -/
theorem State.grant_walk {r : Requester} (next : s.nextGrant = some r) {y : State} (sweep : y.sweep = s.sweep)
    (exec : y.inExec = s.inExec) (u : FlowTable) (o : OpOutcome) : s.walk.Turn sound (y.grant r u o).walk := by
  obtain ⟨free, waits⟩ := State.nextGrant_some next
  have before : s.flight = none := State.flight_of_free free
  cases r with
  | su =>
    have unit : (y.grant .su u o).sweep = { s.sweep with presented := false } := by rw [← sweep]; rfl
    have aborts : (y.grant .su u o).aborts = s.aborts := State.aborts_of_exec exec
    exact State.walk_turn unit (y.grant_flight _ u o) aborts (.granted before waits)
  | lc | lt =>
    exact State.walk_of_same sweep ((y.grant_flight _ u o).trans before.symm) (State.aborts_of_exec exec)
  | cp =>
    obtain ⟨e, inExec, waiting⟩ := State.nextGrant_cp next
    have aborts : s.aborts = false := by simp [State.aborts, inExec, waiting]
    refine State.walk_of_same sweep ((y.grant_flight _ u o).trans before.symm) (Eq.trans ?_ aborts.symm)
    unfold State.aborts
    rw [State.grant_inExec, if_pos rfl, exec, inExec]
    rfl

/-- The turn of the sweep unit at an effect. -/
theorem Effect.walk (e : Effect i s t) : s.walk.Turn s.ExecLaw t.walk := by
  cases e with
  | kept | initialised | ticked | causesCleared | enablesWritten | runWritten | slotWritten | timeRead | struck =>
    exact .kept
  | poweredOn => exact .poweredOn
  | presentedDue =>
    exact State.walk_of_same (by simp) (State.flight_of_op (by simp)) (State.aborts_of_exec (by simp))
  | requested c tag body =>
    exact State.walk_of_same (by simp) (State.requestArrives_flight c tag body) (State.aborts_of_exec (by simp))
  | faulted c why => exact State.walk_of_same (by simp) (State.faultChannel_flight c why) (State.aborts_of_exec (by simp))
  | granted r u o n next => exact State.grant_walk (y := { s with freeCount := n }) next rfl rfl u o
  | seedGranted seed st r next => exact State.grant_walk (y := { s with seed := seed }) next rfl rfl s.table _
  | domainGranted d st r granted => exact State.grant_walk (y := s.domainWritten d) granted.1 rfl rfl s.table _
  | answered c _ _ op | discarded c _ _ op =>
    refine State.walk_of_same (by simp) (Eq.trans ?_ (State.flight_at op).symm) (State.aborts_of_exec (by simp))
    exact State.flight_of_free (by simp)
  | commandDropped _ _ _ _ op =>
    exact State.walk_of_same rfl ((State.flight_of_free rfl).trans (State.flight_at op).symm) rfl
  | commandCompleted _ _ _ _ op =>
    exact State.walk_turn rfl ((State.flight_of_free rfl).trans (State.flight_at op).symm) rfl
      (.completed fun law => law.alone (by simp [State.atTable_of_op op]))
  | timerEnded atTable =>
    have own : s.flight = none := by
      simpa [State.atTable_su] using State.atTable_other (q := .su) atTable (by simp)
    exact State.walk_of_same (by simp) ((State.flight_of_free (by simp)).trans own.symm) (State.aborts_of_exec (by simp))
  | positionEnded _ v m a op =>
    have unit : (s.movedOn v m a).afterPosition.sweep = (s.sweep.counted v m a).advanced := State.afterPosition_sweep rfl
    have flight : (s.movedOn v m a).afterPosition.flight = none := State.flight_of_free State.afterPosition_opAtTable
    have aborts : (s.movedOn v m a).afterPosition.aborts = if s.sweep.state = .aborting then false else s.aborts := by
      unfold State.aborts
      rw [State.afterPosition_inExec]
      change (if s.sweep.state = .aborting then none else s.inExec).any _ = _
      split <;> rfl
    exact State.walk_turn unit flight aborts (.ended v m a (State.flight_at op))
  | positionRestarted _ _ _ _ op walking =>
    have unit : s.endOp.presentPosition.sweep = { s.sweep with presented := true } := State.presentPosition_sweep
    have flight : s.endOp.presentPosition.flight = none := State.flight_of_free (by simp)
    have aborts : s.endOp.presentPosition.aborts = s.aborts := State.aborts_of_exec (by simp)
    exact State.walk_turn unit flight aborts (.restarted walking (State.flight_at op))
  | positionDropped _ _ _ _ op resting => exact .dropped resting (State.flight_at op)
  | took can t carried => exact carried.walk can.alone
  | producerWritten v => unfold State.writeCmdProducer; dsimp only; split <;> exact .kept
  | consumerWritten v => unfold State.writeCplConsumer; split <;> exact .kept
  | portReset run =>
    have flight : ({ s with port := { s.port with run := run } } : State).portReset.flight = s.flight.map (fun _ => true) := by
      unfold State.flight State.portReset
      rcases s.opAtTable with _ | op
      · rfl
      · by_cases own : op.requester = .su <;> simp [own, State.cutByPortReset]
    exact State.walk_turn rfl flight rfl .portReset

/-! ### The law of the sweep unit (R167, R169, R174 to R178) -/

/-- The law of the sweep unit, of the unit with what its turns depend on. -/
structure Walk.Lawful (x : Walk) : Prop where
  cursor : x.unit.cursor ≤ Config.walkEnd
  inside : x.unit.state ≠ .idle → x.unit.cursor < Config.walkEnd
  sweep : x.unit.state ≠ .idle → x.unit.pendingSweep.isSome
  suspend : x.unit.state = .suspending → x.unit.pendingSuspend.isSome
  presented : x.unit.presented = true → x.unit.state.walking = true ∧ x.flight = none
  busy : x.unit.state.walking = true → x.unit.presented = true ∨ x.flight.isSome
  resting : x.unit.state = .suspended → x.flight = none
  counts : x.flight = some false → x.unit.state.walking = true
  abort : x.aborts = true ↔ x.unit.state = .aborting

theorem State.flight_eq_none : s.flight = none ↔ s.atTable .su = false := by simp [State.atTable_su]

theorem State.flight_eq_some (b : Bool) :
    s.flight = some b ↔ ∃ op, s.opAtTable = some op ∧ op.requester = .su ∧ op.abandoned = b := by
  unfold State.flight
  rcases s.opAtTable with _ | op
  · simp
  · by_cases own : op.requester = .su <;> simp [own]

theorem State.aborts_iff : s.aborts = true ↔ ∃ e, s.inExec = some e ∧ e.phase = .aborting := by
  unfold State.aborts
  rcases s.inExec with _ | e <;> simp

theorem sweepInv_iff : SweepInv s ↔ s.walk.Lawful ∧ s.ExecLaw := by
  have counted : s.flight = some false → ∃ op, s.opAtTable = some op ∧ op.requester = .su ∧ op.abandoned = false :=
    (State.flight_eq_some false).mp
  constructor
  · rintro ⟨cursor, inside, sweep, suspend, presented, busy, resting, position, aborting, abort⟩
    refine ⟨⟨cursor, inside, sweep, suspend, fun p => ?_, fun w => ?_, fun r => State.flight_eq_none.mpr (resting r),
      fun f => ?_, ?_⟩, fun e exec phase => (abort e exec phase).2, fun op atTable own => (position op atTable own).2⟩
    · exact ⟨(presented p).1, State.flight_eq_none.mpr (presented p).2⟩
    · simpa [State.walk, State.atTable_su] using busy w
    · obtain ⟨op, atTable, own, counts⟩ := counted f
      exact (position op atTable own).1 counts
    · refine State.aborts_iff.trans ⟨fun ⟨e, exec, phase⟩ => (abort e exec phase).1, aborting⟩
  · rintro ⟨law, exec⟩
    refine ⟨law.cursor, law.inside, law.sweep, law.suspend, fun p => ?_, fun w => ?_,
      fun r => State.flight_eq_none.mp (law.resting r), fun op atTable own => ⟨fun counts => ?_, exec.position op atTable own⟩,
      fun a => State.aborts_iff.mp (law.abort.mpr a), fun e inExec phase => ⟨?_, exec.abort e inExec phase⟩⟩
    · exact ⟨(law.presented p).1, State.flight_eq_none.mp (law.presented p).2⟩
    · simpa [State.walk, State.atTable_su] using law.busy w
    · exact law.counts ((State.flight_eq_some false).mpr ⟨op, atTable, own, counts⟩)
    · exact law.abort.mp (State.aborts_iff.mpr ⟨e, inExec, phase⟩)

theorem SweepState.walking_iff {w : SweepState} : w.walking = true ↔ w = .running ∨ w = .suspending ∨ w = .aborting := by
  simp [SweepState.walking, or_assoc]

theorem Walk.Lawful.not_presented {x : Walk} (law : x.Lawful) {b : Bool} (atTable : x.flight = some b) :
    x.unit.presented = false := by
  by_contra p
  have free := (law.presented (by simpa using p)).2
  rw [atTable] at free
  cases free

/-- A walk that rests has nothing presented. -/
theorem Walk.Lawful.resting_unpresented {x : Walk} (law : x.Lawful) (rest : x.unit.state.walking = false) :
    x.unit.presented = false := by
  by_contra p
  have walking := (law.presented (by simpa using p)).1
  rw [rest] at walking
  cases walking

/-- A sweep unit in IDLE that presents nothing, with at most an abandoned position at the table, is lawful. -/
theorem Walk.Lawful.of_idle {x : Walk} (idle : x.unit.state = .idle) (cursor : x.unit.cursor ≤ Config.walkEnd)
    (presented : x.unit.presented = false) (flight : x.flight ≠ some false) (aborts : x.aborts = false) : x.Lawful where
  cursor := cursor
  inside n := absurd idle n
  sweep n := absurd idle n
  suspend e := by simp [idle] at e
  presented p := by simp [presented] at p
  busy w := by simp [idle, SweepState.walking] at w
  resting e := by simp [idle] at e
  counts f := absurd f flight
  abort := by simp [idle, aborts]

/-- A walk in RUNNING with its next position presented is lawful. -/
theorem Walk.Lawful.of_running {x : Walk} (running : x.unit.state = .running) (cursor : x.unit.cursor < Config.walkEnd)
    (sweep : x.unit.pendingSweep.isSome = true) (presented : x.unit.presented = true → x.flight = none)
    (busy : x.unit.presented = true ∨ x.flight.isSome = true) (aborts : x.aborts = false) : x.Lawful where
  cursor := cursor.le
  inside _ := cursor
  sweep _ := sweep
  suspend e := by simp [running] at e
  presented p := ⟨by simp [running, SweepState.walking], presented p⟩
  busy _ := busy
  resting e := by simp [running] at e
  counts _ := by simp [running, SweepState.walking]
  abort := by simp [running, aborts]

/-- The end of a position of the present walk keeps the law (R169, R174, R175, R177). -/
theorem Walk.Lawful.advanced {x : Walk} (law : x.Lawful) (atTable : x.flight = some false) (v m a : Nat) :
    (Walk.mk (x.unit.counted v m a).advanced none
      (if x.unit.state = .aborting then false else x.aborts)).Lawful := by
  have unpresented := law.not_presented atTable
  have moving : x.unit.state ≠ .idle := fun idle => by
    have walking := law.counts atTable
    rw [idle] at walking
    cases walking
  have next : (x.unit.counted v m a).cursor ≤ Config.walkEnd := law.inside moving
  have quiet : x.unit.state ≠ .aborting → x.aborts = false := fun n => by
    by_contra a
    exact n (law.abort.mp (by simpa using a))
  unfold Sweep.advanced
  rcases SweepState.walking_iff.mp (law.counts atTable) with e | e | e
  · have aborts := quiet (by simp [e])
    simp only [Sweep.counted, e] at next ⊢
    split
    next inside => exact .of_running rfl inside (law.sweep moving) (fun _ => rfl) (.inl rfl) (by simp [aborts])
    next => exact .of_idle rfl next unpresented (by simp) (by simp [aborts])
  · have aborts := quiet (by simp [e])
    simp only [Sweep.counted, e] at next ⊢
    split
    next inside =>
      exact ⟨next, fun _ => inside, fun _ => law.sweep moving, (fun s => nomatch s), fun p => by simp [unpresented] at p,
        (fun w => nomatch w), fun _ => rfl, (fun f => nomatch f), by simp [aborts]⟩
    next => exact .of_idle rfl next unpresented (by simp) (by simp [aborts])
  · simp only [Sweep.counted, e] at next ⊢
    exact .of_idle rfl next unpresented (by simp) rfl

theorem Walk.Lawful.of_presenting {flight : Option Bool} {w : Sweep} (running : w.state = .running)
    (cursor : w.cursor < Config.walkEnd) (sweep : w.pendingSweep.isSome = true) (unpresented : w.presented = false) :
    (Walk.mk (w.presenting flight) flight false).Lawful := by
  unfold Sweep.presenting
  split
  next atTable => exact .of_running running cursor sweep (by simp [unpresented]) (.inr atTable) rfl
  next free => exact .of_running running cursor sweep (fun _ => by simpa using free) (.inl rfl) rfl

/-- Every turn of the sweep unit keeps its law. -/
theorem Walk.Turn.lawful {x y : Walk} (turn : x.Turn sound y) (law : x.Lawful) (sure : sound) : y.Lawful := by
  cases turn with
  | kept => exact law
  | completed alone =>
    have same : x.aborts = false := alone sure
    exact ⟨law.cursor, law.inside, law.sweep, law.suspend, law.presented, law.busy, law.resting, law.counts,
      same ▸ law.abort⟩
  | poweredOn => exact .of_idle rfl (Nat.zero_le _) rfl (by simp) rfl
  | granted free presented =>
    have walking := (law.presented presented).1
    exact ⟨law.cursor, law.inside, law.sweep, law.suspend, (fun p => nomatch p), fun _ => .inr rfl,
      fun rest => absurd walking (by simp [show x.unit.state = .suspended from rest, SweepState.walking]), fun _ => walking, law.abort⟩
  | ended v m a atTable => exact law.advanced atTable v m a
  | restarted walking atTable =>
    exact ⟨law.cursor, law.inside, law.sweep, law.suspend, fun _ => ⟨walking, rfl⟩, fun _ => .inl rfl,
      fun _ => rfl, (fun f => nomatch f), law.abort⟩
  | dropped resting atTable =>
    exact ⟨law.cursor, law.inside, law.sweep, law.suspend, fun p => ⟨(law.presented p).1, rfl⟩,
      fun w => by simp [resting] at w, fun _ => rfl, (fun f => nomatch f), law.abort⟩
  | accepted idle alone params tag =>
    exact .of_presenting rfl (by simp [Sweep.accepted, Config.walkEnd]) rfl
      (law.resting_unpresented (by simp [idle, SweepState.walking]))
  | suspended running alone tag =>
    have walking : x.unit.state.walking = true := by simp [running, SweepState.walking]
    have moving : x.unit.state ≠ .idle := by simp [running]
    exact ⟨law.cursor, fun _ => law.inside moving, fun _ => law.sweep moving, fun _ => rfl,
      fun p => ⟨rfl, (law.presented p).2⟩, fun _ => law.busy walking, (fun s => nomatch s), fun _ => rfl, by simp⟩
  | resumed suspended alone =>
    have moving : x.unit.state ≠ .idle := by simp [suspended]
    exact .of_presenting rfl (law.inside moving) (law.sweep moving)
      (law.resting_unpresented (by simp [suspended, SweepState.walking]))
  | aborting walking =>
    have moving : x.unit.state ≠ .idle := by rcases walking with e | e <;> simp [e]
    have walks : x.unit.state.walking = true := by rcases walking with e | e <;> simp [e, SweepState.walking]
    exact ⟨law.cursor, fun _ => law.inside moving, fun _ => law.sweep moving, (fun s => nomatch s),
      fun p => ⟨rfl, (law.presented p).2⟩, fun _ => law.busy walks, (fun s => nomatch s), fun _ => rfl, by simp⟩
  | aborted suspended alone =>
    exact .of_idle rfl law.cursor (law.resting_unpresented (by simp [suspended, SweepState.walking]))
      (by simp [law.resting suspended]) rfl
  | portReset => exact .of_idle rfl law.cursor rfl (by simp) rfl

/-! ### The command in execution and the operation at the table -/

/-- The operation at the table after an effect: what was there, none, or one granted with the answer of its requester. -/
theorem Effect.place (e : Effect i s t) : t.place = s.place ∨ t.opAtTable = none
    ∨ ∃ r o, s.nextGrant = some r ∧ r.Answers o
      ∧ t.opAtTable = some { requester := r, before := s.table, abandoned := false, outcome := o } := by
  cases e with
  | kept | initialised | ticked | causesCleared | enablesWritten | runWritten | slotWritten | timeRead | struck =>
    exact .inl rfl
  | presentedDue => exact .inl (State.place_of_op (by simp))
  | requested | faulted => exact .inl (by simp)
  | portReset => exact .inl State.portReset_place
  | producerWritten v => left; unfold State.writeCmdProducer; dsimp only; split <;> rfl
  | consumerWritten v => left; unfold State.writeCplConsumer; split <;> rfl
  | took can t carried => exact .inl carried.place
  | granted r u o n next answers => exact .inr (.inr ⟨r, o, next, answers, rfl⟩)
  | seedGranted seed st r next => exact .inr (.inr ⟨.cp, _, next, ⟨st, r, rfl⟩, rfl⟩)
  | domainGranted d st r granted => exact .inr (.inr ⟨.cp, _, granted.1, ⟨st, r, rfl⟩, rfl⟩)
  | poweredOn | commandDropped | commandCompleted | positionDropped => exact .inr (.inl rfl)
  | answered | discarded | timerEnded | positionRestarted => exact .inr (.inl (by simp))
  | positionEnded => exact .inr (.inl State.afterPosition_opAtTable)

/-- The law of the command in execution after an effect (R147, R177). -/
theorem Effect.execLaw (e : Effect i s t) (law : s.ExecLaw) : t.ExecLaw := by
  have place := e.place
  have cp : ∀ x, s.inExec = some x → x.phase = .aborting → s.atTable .cp = false → t.atTable .cp = false := by
    intro x exec phase free
    rcases place with same | none_ | ⟨r, o, next, -, atTable⟩
    · rw [State.atTable_of_place same, free]
    · exact State.atTable_of_free none_ _
    · rw [State.atTable_of_op atTable]
      have other : r ≠ .cp := by
        rintro rfl
        obtain ⟨y, inExec, waiting⟩ := State.nextGrant_cp next
        rw [exec] at inExec
        cases inExec
        rw [phase] at waiting
        cases waiting
      simpa using other
  refine ⟨fun y exec phase => ?_, fun op atTable own => ?_⟩
  · rcases e.inExec with same | none_ | granted | ⟨can, carried⟩
    · rw [same] at exec
      obtain ⟨kind, free⟩ := law.abort y exec phase
      exact ⟨kind, cp y exec phase free⟩
    · rw [none_] at exec; cases exec
    · rw [granted] at exec
      obtain ⟨x, -, rfl⟩ := Option.map_eq_some_iff.mp exec
      cases phase
    · rcases carried.inExec with none_ | ⟨waiting, -⟩ | ⟨aborting, kind⟩
      · rw [none_] at exec; cases exec
      · rw [← Option.some.inj (waiting.symm.trans exec)] at phase
        cases phase
      · rw [← Option.some.inj (aborting.symm.trans exec)]
        refine ⟨kind, ?_⟩
        rw [State.atTable_of_place (s := s) carried.place]
        obtain ⟨-, -, -, other, -, -⟩ := can
        unfold State.atTable
        split
        next op atTable => simpa using other op atTable
        next => rfl
  · rcases place with same | none_ | ⟨r, o, next, answers, granted⟩
    · have there : t.place = some { op with abandoned := false } := by simp [State.place, atTable]
      rw [same] at there
      obtain ⟨op', before, e⟩ := Option.map_eq_some_iff.mp there
      have requester := congrArg TableOp.requester e
      have outcome := congrArg TableOp.outcome e
      obtain ⟨v, m, a, position⟩ := law.position op' before (requester.trans own)
      exact ⟨v, m, a, outcome.symm.trans position⟩
    · rw [none_] at atTable; cases atTable
    · rw [granted] at atTable
      cases atTable
      obtain rfl : r = .su := own
      exact answers

/-- The law of the sweep unit after an effect. -/
theorem Effect.sweepInv (e : Effect i s t) (law : SweepInv s) : SweepInv t := by
  obtain ⟨walk, exec⟩ := sweepInv_iff.mp law
  exact sweepInv_iff.mpr ⟨e.walk.lawful walk exec, e.execLaw exec⟩

/-! ### The law of the management path (R143, R145, R148, R149) -/

/-- The commands that the sweep unit holds pending stand where it waits for them (R174, R175). -/
structure Sweep.Owned (w : Sweep) : Prop where
  sweep : w.pendingSweep.isSome → w.state ≠ .idle
  suspend : w.pendingSuspend.isSome → w.state = .suspending ∨ w.state = .aborting

theorem Sweep.Owned.presenting {w : Sweep} (law : w.Owned) (flight : Option Bool) : (w.presenting flight).Owned := by
  unfold Sweep.presenting
  split
  · exact law
  · exact ⟨law.sweep, law.suspend⟩

theorem Sweep.Owned.over (w : Sweep) : w.over.Owned := ⟨(fun p => nomatch p), fun p => nomatch p⟩

theorem Sweep.Owned.advanced {w : Sweep} (law : w.Owned) : w.advanced.Owned := by
  unfold Sweep.advanced
  split
  next running =>
    have alone : w.pendingSuspend = none := Option.eq_none_of_imp law.suspend (by simp [running])
    split
    · exact ⟨law.sweep, law.suspend⟩
    · exact ⟨(fun p => nomatch p), fun p => by simp [alone] at p⟩
  next suspending =>
    split
    · exact ⟨(fun _ s => nomatch s), fun p => nomatch p⟩
    · exact .over w
  next => exact .over w
  all_goals exact law

theorem Walk.Turn.owned {x y : Walk} (turn : x.Turn sound y) (law : x.unit.Owned) : y.unit.Owned := by
  cases turn with
  | kept | completed | dropped => exact law
  | poweredOn => exact ⟨(fun p => nomatch p), fun p => nomatch p⟩
  | granted | restarted => exact ⟨law.sweep, law.suspend⟩
  | ended v m a => exact Sweep.Owned.advanced ⟨law.sweep, law.suspend⟩
  | accepted idle alone params tag =>
    have none_ : x.unit.pendingSuspend = none := Option.eq_none_of_imp law.suspend (by simp [idle])
    exact Sweep.Owned.presenting ⟨fun _ => by simp [Sweep.accepted], fun p => by simp [Sweep.accepted, none_] at p⟩ _
  | suspended => exact ⟨(fun _ s => nomatch s), fun _ => .inl rfl⟩
  | resumed suspended =>
    have none_ : x.unit.pendingSuspend = none := Option.eq_none_of_imp law.suspend (by simp [suspended])
    exact Sweep.Owned.presenting ⟨fun _ => by simp, fun p => by simp [none_] at p⟩ _
  | aborting => exact ⟨(fun _ s => nomatch s), fun _ => .inr rfl⟩
  | aborted suspended =>
    have none_ : x.unit.pendingSuspend = none := Option.eq_none_of_imp law.suspend (by simp [suspended])
    exact ⟨(fun p => nomatch p), fun p => by simp [none_] at p⟩
  | portReset => exact ⟨(fun p => nomatch p), fun p => nomatch p⟩

/-- A CLOSE is pending in DRAINING only, after any turn of its channel (R74). -/
theorem Channel.Turn.owned {ch ch' : Channel} {busy busy' : Bool} (turn : ch.Turn busy busy' ch')
    (law : ch.closePending.isSome → ch.state = .draining) : ch'.closePending.isSome → ch'.state = .draining := by
  have served : ∀ {x : Channel} {b}, (x.closePending.isSome → x.state = .draining) →
      (x.served b).closePending.isSome → (x.served b).state = .draining := by
    intro x b own
    unfold Channel.served
    split_ifs
    · exact own
    · exact fun p => nomatch p
    · exact own
    · exact own
  cases turn with
  | kept | granted => exact law
  | poweredOn | faulted | reset => exact fun p => nomatch p
  | requested _ tag body =>
    unfold Channel.arrived
    split
    · exact law
    · exact law
    · split
      · exact served law
      · exact fun p => nomatch p
    · split_ifs
      · exact law
      · exact law
      · exact fun p => nomatch p
  | answered r =>
    refine served ?_
    unfold Channel.answerHead
    split <;> exact law
  | discarded => exact served law
  | opened =>
    unfold Channel.openedUp
    split
    next disabled => exact fun p => absurd (law p) (by simp [disabled])
    next => exact law
  | closed =>
    unfold Channel.closed
    split_ifs with opened
    · exact fun _ => rfl
    · exact fun p => absurd (law p) (by simp [opened])
    · exact law
  | portReset =>
    unfold Channel.portReset
    split
    · exact fun p => nomatch p
    all_goals exact law

theorem Effect.owned (e : Effect i s t) (own : s.Owned) : t.Owned :=
  have unit := e.walk.owned (x := s.walk) (y := t.walk) ⟨own.sweep, own.suspend⟩
  ⟨fun c => (e.turns c).owned (own.close c), unit.sweep, unit.suspend⟩

theorem Port.Law.powerOn : Port.powerOn.Law := by constructor <;> decide

/-- A take leaves the law: the descriptor's place is freed, and a completion slot is reserved (R143, R145). -/
theorem Port.Law.taken (law : s.port.Law) (can : CanTakeNow s) : s.taken.port.Law := by
  obtain ⟨-, -, -, -, some_, room⟩ := can
  have producer := law.cmdProducer
  have consumer := law.cmdConsumer
  have occupancy := law.occupancy
  simp only [Port.occupancy] at some_ occupancy
  refine { law with cmdConsumer := Nat.mod_lt _ (by omega), occupancy := ?_, room := ?_ }
  · simp only [Port.occupancy, State.taken]
    omega
  · simp only [Port.entries, State.taken] at room ⊢
    omega

theorem State.holders_taken (can : CanTakeNow s) : s.taken.holders = s.holders + 1 := by
  obtain ⟨-, -, none_, -⟩ := can
  rw [State.holders_of (t := s) (congrArg _ none_) rfl rfl rfl, State.holders_of (t := s.taken) (n := s.closing) rfl rfl rfl rfl]
  simp only [State.taken_inExec, State.taken_sweep, Option.isSome_some, Option.isSome_none, flagCode_true, flagCode_false]
  omega

theorem State.holders_portReset (s : State) (own : s.Owned) : s.portReset.holders = 0 := by
  have closing : s.portReset.closing = 0 := by
    refine Finset.sum_eq_zero fun c _ => ?_
    have chan : s.portReset.chan c = (s.chan c).portReset := by simp [State.portReset, State.chan]
    rw [chan]
    unfold Channel.portReset
    split
    · rfl
    all_goals
      next e => simp [Option.eq_none_of_imp (own.close c) (by simp [e])]
  rw [State.holders_of (t := s.portReset) rfl rfl rfl closing]
  rfl

theorem State.holders_poweredOn (s : State) : s.poweredOn.holders = 0 := by
  have closing : s.poweredOn.closing = 0 :=
    Finset.sum_eq_zero fun c _ => by simp [State.poweredOn, State.chan, Channel.powerOn]
  rw [State.holders_of (t := s.poweredOn) rfl rfl rfl closing]
  rfl

theorem State.writeCmdProducer_law (law : s.port.Law) (v : Word) : (s.writeCmdProducer v).port.Law := by
  unfold State.writeCmdProducer
  dsimp only
  split
  · exact { law with noLevel := and_or_low law.noLevel rfl }
  next taken =>
    simp only [not_or, Nat.not_lt] at taken
    obtain ⟨inRange, -, most⟩ := taken
    exact { law with cmdProducer := Nat.lt_succ_of_le inRange, occupancy := most }

/-- A CPL_CONSUMER write frees no more entries than there are (R149). -/
theorem State.writeCplConsumer_law (law : s.port.Law) (v : Word) : (s.writeCplConsumer v).port.Law := by
  unfold State.writeCplConsumer
  split
  · exact { law with noLevel := and_or_low law.noLevel rfl }
  next taken =>
    simp only [not_or, Nat.not_lt] at taken
    obtain ⟨inRange, freed⟩ := taken
    have producer := law.cplProducer
    have consumer := law.cplConsumer
    have room := law.room
    refine { law with cplConsumer := Nat.lt_succ_of_le inRange, room := ?_ }
    simp only [Port.entries] at freed room ⊢
    omega

theorem State.write_holders (v : Word) : (s.writeCmdProducer v).port.reservations = s.port.reservations
    ∧ (s.writeCmdProducer v).holders = s.holders ∧ (s.writeCplConsumer v).port.reservations = s.port.reservations
    ∧ (s.writeCplConsumer v).holders = s.holders := by
  unfold State.writeCmdProducer State.writeCplConsumer
  dsimp only
  refine ⟨?_, ?_, ?_, ?_⟩ <;> split <;> rfl

theorem PortWork.accounts (e : PortWork i s t) (law : s.port.Law) (reserved : s.port.reservations = s.holders) (own : s.Owned) :
    t.port.Law ∧ t.port.reservations = t.holders := by
  cases e with
  | poweredOn => exact ⟨.powerOn, s.holders_poweredOn.symm⟩
  | initialised => exact ⟨{ law with noLevel := and_or_low law.noLevel rfl }, reserved⟩
  | took can t carried =>
    obtain ⟨n, posts, holders⟩ := carried.posts rfl
    have held := holders ⟨own.close, own.sweep, own.suspend⟩
    rw [State.holders_taken can] at held
    have raised : s.taken.port.reservations = s.port.reservations + 1 := rfl
    obtain ⟨law, left⟩ := posts.law (law.taken can) (by omega)
    exact ⟨law, by omega⟩
  | producerWritten v => exact ⟨State.writeCmdProducer_law law v, by rw [(s.write_holders v).1, (s.write_holders v).2.1, reserved]⟩
  | consumerWritten v =>
    exact ⟨State.writeCplConsumer_law law v, by rw [(s.write_holders v).2.2.1, (s.write_holders v).2.2.2, reserved]⟩
  | enablesWritten | runWritten | slotWritten | timeRead => exact ⟨{ law with }, reserved⟩
  | portReset run =>
    have none_ := State.holders_portReset { s with port := { s.port with run := run } } ⟨own.close, own.sweep, own.suspend⟩
    exact ⟨by constructor <;> simp [State.portReset, Port.occupancy, Port.entries], none_.symm⟩

/-- The law of the management path after an effect. -/
theorem Effect.portInv (e : Effect i s t) (inv : PortInv s) : PortInv t := by
  obtain ⟨law, reserved, own⟩ := portInv_iff.mp inv
  have accounts : t.port.Law ∧ t.port.reservations = t.holders := by
    rcases e.port with ⟨n, posts, holders⟩ | work
    · obtain ⟨law, left⟩ := posts.law law (by omega)
      exact ⟨law, by omega⟩
    · exact work.accounts law reserved own
  exact portInv_iff.mpr ⟨accounts.1, accounts.2, e.owned own⟩

/-- Settles O5: every effect keeps the accounts of the completion queue, and every turn of the sweep unit its law. -/
theorem everyStepKeepsTheManagementPath : Obligations.EveryStepKeepsTheManagementPath := by
  unfold Obligations.EveryStepKeepsTheManagementPath
  exact fun s t e => ⟨step_keeps (P := PortInv) (fun _ _ p => p) id (fun i x t p e => e.portInv p) e,
    step_keeps (P := SweepInv) (fun _ _ p => p) id (fun i x t p e => e.sweepInv p) e⟩

end Sys2Proof.Machine
end

section
/-! PROOF. The step, the reset, the tick, what the outside sees while an operation is at the table, and what a grant takes
(R3, R28 to R31, R99, R100, R141). -/

namespace Sys2Proof.Machine

variable {s t : State} {i : Instr}

/-! ### The step and the tick -/

/-- Settles O1: the step on a queue that is not empty is the front command's. -/
theorem stepRunsFrontCommand : Obligations.StepRunsFrontCommand := by
  unfold Obligations.StepRunsFrontCommand
  intro c rest s
  rfl

theorem exec_tick (s : State) :
    exec .tick s = .next { s with timer := s.timer.periods (s.timer.divider - s.timer.dividerCount) } := rfl

theorem step_idle (idle : s.pending = []) : step s = .next s.clockPeriod := by simp [step, idle]

/-- Settles O3: the periods to the divider's value make one tick, and periods one after another add up. -/
theorem ticksAdvanceTheTimeBase : Obligations.TicksAdvanceTheTimeBase := by
  unfold Obligations.TicksAdvanceTheTimeBase
  intro s inRange counting
  have some_ : 0 < s.timer.divider := by omega
  have filled : s.timer.dividerCount + (s.timer.divider - s.timer.dividerCount) = s.timer.divider := by omega
  have iterate := State.clockPeriod_iterate s some_ inRange counting
  have period : s.clockPeriod = { s with timer := s.timer.periods 1 } := rfl
  refine ⟨fun on below => ?_, fun on full => ?_, fun off => ?_, fun idle off => ?_, fun idle on less => ?_,
    fun idle on last => ?_, step_idle, fun on n => ?_, ?_⟩
  · rw [exec_tick, Timer.periods_filled on some_ filled, Nat.min_eq_right (by simp only [Config.timeMax]; omega)]
  · rw [exec_tick, Timer.periods_filled on some_ filled, Nat.min_eq_left (by simp only [Config.timeMax]; omega)]
    simp [full, Config.timeMax]
  · rw [exec_tick, Timer.periods_off _ off]
  · rw [step_idle idle, period, Timer.periods_off 1 off]
  · rw [step_idle idle, period, Timer.periods_one_counted on inRange less]
  · rw [step_idle idle, period, exec_tick, show s.timer.divider - s.timer.dividerCount = 1 by omega]
  · rw [iterate n, Timer.periods, if_pos on]
  · rw [iterate, exec_tick]

/-! ### The outside (R31) -/

theorem State.seen_of_place (same : t.place = s.place) (busy : t.opAtTable.isSome = true) : t.seen = s.seen := by
  obtain ⟨op, atTable⟩ := Option.isSome_iff_exists.mp busy
  have there : s.place = some { op with abandoned := false } := by rw [← same, State.place, atTable]; rfl
  obtain ⟨op', before, e⟩ := Option.map_eq_some_iff.mp there
  have kept := congrArg TableOp.before e
  simp only [State.seen, atTable, before]
  exact kept.symm

/-- Only bit 1 of the level causes is LEARNED, and only bit 2 is CLOSED. -/
theorem State.levelCauses_learned (s : State) : s.levelCauses.getLsbD 1 = !s.seen.learned.isEmpty := by
  simp only [State.levelCauses, bitIf]
  split_ifs <;> simp_all

theorem State.levelCauses_closed (s : State) : s.levelCauses.getLsbD 2 = !s.seen.closed.isEmpty := by
  simp only [State.levelCauses, bitIf]
  split_ifs <;> simp_all

/-- What the outside sees, while an operation is at the table after an effect. -/
theorem Effect.seen (e : Effect i s t) (busy : t.opAtTable.isSome = true) : t.seen = s.seen := by
  rcases e.place with same | none_ | ⟨r, o, next, -, atTable⟩
  · exact State.seen_of_place same busy
  · rw [none_] at busy; cases busy
  · simp [State.seen, atTable, (State.nextGrant_some next).1]

/-- Settles O13: the operation at the table was there before, with the same table before it, or has just been granted. -/
theorem outsideSeesTheTableBetweenOperations : Obligations.OutsideSeesTheTableBetweenOperations := by
  unfold Obligations.OutsideSeesTheTableBetweenOperations
  intro c s t e busy
  have seen := (exec_effect e).seen busy
  refine ⟨seen, ?_, ?_⟩
  · rw [State.levelCauses_learned, State.levelCauses_learned, seen]
  · rw [State.levelCauses_closed, State.levelCauses_closed, seen]

/-! ### The reset (R3, R141) -/

theorem State.reset_chan (c : Fin 4) : State.reset.chan c = Channel.powerOn := by simp [State.reset, State.chan]

theorem State.poweredOn_chan (s : State) (c : Fin 4) :
    s.poweredOn.chan c = { Channel.powerOn with lane := (s.chan c).lane } := by
  simp [State.poweredOn, State.chan]

/-- A state with every block at its power-on values holds the values that the spec states. -/
theorem powerOnValues_of {t : State} (port : t.port = Port.powerOn) (exec : t.inExec = none) (seed : t.seed = 0#11)
    (domains : t.domains = State.reset.domains) (profiles : t.profiles = State.reset.profiles)
    (chans : ∀ c, t.chan c = { Channel.powerOn with lane := (t.chan c).lane }) (table : t.table = FlowTable.initial)
    (last : t.lastGranted = .lt) (op : t.opAtTable = none) (timer : t.timer = Timer.powerOn)
    (sweep : t.sweep = Sweep.powerOn) : PowerOnValues t := by
  have slot : ∀ h, FlowTable.initial.slot h = Slot.powerOn := fun _ => rfl
  unfold PowerOnValues
  rw [port, exec, seed, domains, profiles, table, last, op, timer, sweep]
  refine ⟨rfl, rfl, rfl, rfl, rfl, rfl, rfl, fun _ => rfl, rfl, rfl, rfl, rfl, rfl, fun d => ?_, fun p => ?_, fun c => ?_,
    fun h => ⟨rfl, rfl, rfl, rfl, rfl, rfl⟩, rfl, rfl, rfl, rfl, rfl, rfl, rfl, rfl, rfl, rfl, rfl, rfl, rfl, rfl, rfl, rfl,
    rfl, rfl, rfl, rfl, rfl, rfl, rfl, rfl, rfl, rfl⟩
  · simp [State.reset, DomainEntry.powerOn, FlowTable.count_initial]
  · simp [State.reset]
  · rw [chans c]
    exact ⟨rfl, rfl, rfl, rfl, rfl, rfl, rfl⟩

/-- Settles O2: the state after reset and after a power-on reset has every block at its power-on values. -/
theorem powerOnResetAndInitPass : Obligations.PowerOnResetAndInitPass := by
  unfold Obligations.PowerOnResetAndInitPass
  refine ⟨?_, fun s => ⟨s.poweredOn, rfl, ?_, rfl, fun c => ?_⟩, fun s init => ⟨s.initialised, ?_, rfl, fun _ => rfl,
    FlowTable.count_initial, rfl, rfl, rfl, rfl⟩⟩
  · exact powerOnValues_of rfl rfl rfl rfl rfl (fun c => by rw [State.reset_chan]) rfl rfl rfl rfl rfl
  · exact powerOnValues_of rfl rfl rfl rfl rfl (fun c => by rw [State.poweredOn_chan]) rfl rfl rfl rfl rfl
  · rw [State.poweredOn_chan]
  · change (.next (if s.port.ready then s else s.initialised) : Answer) = _
    rw [init]
    rfl

theorem portInv_reset : PortInv State.reset := by
  refine portInv_iff.mpr ⟨.powerOn, rfl, ⟨fun c pending => ?_, (fun p => nomatch p), fun p => nomatch p⟩⟩
  rw [State.reset_chan] at pending
  cases pending

theorem sweepInv_reset : SweepInv State.reset :=
  sweepInv_iff.mpr ⟨.of_idle rfl (Nat.zero_le _) rfl (fun f => nomatch f) rfl, (fun _ e => nomatch e), fun _ e => nomatch e⟩

theorem channelInv_reset (c : Fin 4) : ChannelInv State.reset c := by
  rw [channelInv_iff, State.reset_chan]
  exact .of_empty rfl rfl rfl rfl rfl

theorem boundsInv_reset : BoundsInv State.reset :=
  ⟨fun n => (FlowTable.count_initial n).trans_le (Nat.zero_le _), settingsInv_reset, (fun _ e => nomatch e),
    fun _ => Body.zero_inRange, ⟨.nil, fun _ m => nomatch m⟩, .nil, fun _ m => nomatch m⟩

/-- Settles O4: one lemma of each law, for the empty table, the resting channels, the resting sweep unit and the empty queues. -/
theorem everyLawHoldsAtReset : Obligations.EveryLawHoldsAtReset :=
  ⟨portInv_reset, sweepInv_reset, channelInv_reset, .initial, FlowTable.bucketLaw_of_free FlowTable.state_initial,
    FlowTable.keyLaw_of_free FlowTable.state_initial, boundsInv_reset⟩

/-! ### The grant (R28, R29, R31) -/

theorem State.grant_chan (s : State) (r : Requester) (u : FlowTable) (o : OpOutcome) (c : Fin 4) :
    (s.grant r u o).chan c = { s.chan c with presented := (s.chan c).presented && !(r == .lc c) } := by
  by_cases own : r = .lc c
  · subst own
    exact (State.setChan_chan_same s c _).trans (by simp)
  · have apart : (r == .lc c) = false := by simpa using own
    rw [s.grant_chan_other own, apart]
    simp

theorem State.grant_timer (s : State) (r : Requester) (u : FlowTable) (o : OpOutcome) :
    (s.grant r u o).timer = { s.timer with waiting := if r = .lt then none else s.timer.waiting } := by cases r <;> rfl

theorem State.grant_sweep (s : State) (r : Requester) (u : FlowTable) (o : OpOutcome) :
    (s.grant r u o).sweep = { s.sweep with presented := s.sweep.presented && !(r == .su) } := by
  by_cases own : r = .su
  · subst own
    simp [State.grant, State.leaveWait]
  · have kept : (s.grant r u o).sweep = s.sweep := by
      cases r with
      | su => exact absurd rfl own
      | lc | cp | lt => rfl
    have apart : (r == .su) = false := by simpa using own
    rw [kept, apart]
    simp

/-- Whether a requester waits after a grant: the granted one no longer, every other as before. -/
theorem State.waits_grant (s : State) (r : Requester) (u : FlowTable) (o : OpOutcome) (q : Requester) :
    (s.grant r u o).waits q = (s.waits q && !(r == q)) := by
  cases q with
  | lc c => simp only [State.waits, State.grant_chan]
  | su => simp only [State.waits, State.grant_sweep]
  | lt =>
    simp only [State.waits, State.grant_timer]
    by_cases e : r = .lt <;> simp [e]
  | cp =>
    simp only [State.waits, State.grant_inExec]
    by_cases e : r = .cp
    · rcases s.inExec with _ | x <;> simp [e]
    · have apart : (r == .cp) = false := by simpa using e
      simp [e, apart]

/-- Settles O15: one lemma for each part of the state that a grant writes. -/
theorem grantTakesTheTable : Obligations.GrantTakesTheTable := by
  unfold Obligations.GrantTakesTheTable
  intro s r u o
  refine ⟨rfl, rfl, ?_, rfl, fun q other => ?_, State.grant_port s u r o, State.grant_seed s u r o, State.grant_domains s u r o,
    State.grant_profiles s u r o, State.grant_freeCount s u r o, State.grant_pending s u r o, s.grant_chan r u o,
    State.grant_inExec r u o, s.grant_timer r u o, s.grant_sweep r u o⟩
  · simp [State.waits_grant]
  · have apart : (r == q) = false := by simpa using Ne.symm other
    simp [State.waits_grant, apart]

end Sys2Proof.Machine
end

section
/-! PROOF. The search and the placement (R23, R25, R35), and what the shared operations do to a record (R13, R15, R34, R114,
R130). -/

namespace Sys2Proof.Machine

variable {t : FlowTable} {h : Nat}

/-! ### The search (R23, R35) -/

/-- A candidate that a search reads: matchable, and of its domain. -/
def FlowTable.reads (t : FlowTable) (d : Fin 16) (h : Nat) : Bool := (t.dir h).matchable && decide ((t.dir h).domain = d)

/-- A candidate that a search ends on: read, sound, and of its key. -/
def FlowTable.hits (t : FlowTable) (d : Fin 16) (k : Key) (h : Nat) : Bool :=
  t.reads d h && !t.bad h && decide ((t.body h).key = k)

theorem FlowTable.reads_damage {x : Nat} (d : Fin 16) (other : h ≠ x) : (t.damage x).reads d h = t.reads d h := by
  simp [FlowTable.reads, FlowTable.dir_damage, other]

theorem FlowTable.hits_damage {x : Nat} (d : Fin 16) (k : Key) (other : h ≠ x) : (t.damage x).hits d k h = t.hits d k h := by
  simp [FlowTable.hits, FlowTable.reads_damage d other, FlowTable.body_damage, other]

theorem takeWhile_congr {α : Type} {p q : α → Bool} : ∀ {l : List α}, (∀ x ∈ l, p x = q x) → l.takeWhile p = l.takeWhile q
  | [], _ => rfl
  | x :: l, same => by
    rw [List.takeWhile_cons, List.takeWhile_cons, same x List.mem_cons_self,
      takeWhile_congr fun y m => same y (List.mem_cons_of_mem x m)]

/-- A search over distinct candidates ends on the first hit, and damages the unreadable candidates before it. -/
theorem FlowTable.searchIn_eq (d : Fin 16) (k : Key) : ∀ (hs : List Nat), hs.Nodup → ∀ t : FlowTable,
    t.searchIn d k hs = (((hs.takeWhile (fun h => !t.hits d k h)).filter (fun h => t.reads d h && t.bad h)).foldl
      FlowTable.damage t, hs.find? (t.hits d k))
  | [], _, t => rfl
  | x :: hs, once, t => by
    obtain ⟨new, once⟩ := List.nodup_cons.mp once
    rw [FlowTable.searchIn, List.takeWhile_cons, List.find?_cons]
    split
    next unread =>
      have reads : t.reads d x = false := by
        simp only [FlowTable.reads, Bool.and_eq_false_iff, decide_eq_false_iff_not]
        simpa using unread
      have hits : t.hits d k x = false := by simp [FlowTable.hits, reads]
      rw [searchIn_eq d k hs once t]
      simp [hits, reads]
    next read =>
      have reads : t.reads d x = true := by
        simp only [Bool.or_eq_true, Bool.not_eq_true', decide_eq_true_eq, not_or, Bool.not_eq_false, ne_eq, not_not] at read
        simp [FlowTable.reads, read]
      split
      next bad =>
        have hits : t.hits d k x = false := by simp [FlowTable.hits, bad]
        have others : ∀ y ∈ hs, y ≠ x := fun y m e => new (e ▸ m)
        rw [searchIn_eq d k hs once (t.damage x)]
        rw [takeWhile_congr (q := fun h => !t.hits d k h) fun y m => by rw [FlowTable.hits_damage d k (others y m)],
          List.find?_congr fun y m => FlowTable.hits_damage d k (others y m),
          List.filter_congr (q := fun h => t.reads d h && t.bad h) fun y m => by
            rw [FlowTable.reads_damage d (others y (List.takeWhile_subset _ m)), FlowTable.bad_damage]]
        simp [hits, reads, bad]
      next sound =>
        split
        next same => simp [FlowTable.hits, reads, sound, same]
        next differs =>
          have hits : t.hits d k x = false := by simp [FlowTable.hits, differs]
          rw [searchIn_eq d k hs once t]
          simp [hits, sound]

/-- The ways of a bucket and the spill entries are distinct slots. -/
theorem candidates_nodup (b : BitVec 11) : (candidates b).Nodup := by
  have low := b.isLt
  refine List.Nodup.append ((List.nodup_range).map (add_right_injective _)) ((List.nodup_range).map (add_right_injective _)) ?_
  intro h way spill
  obtain ⟨i, inWays, rfl⟩ := List.mem_map.mp way
  obtain ⟨e, -, same⟩ := List.mem_map.mp spill
  rw [List.mem_range] at inWays
  simp only [Config.spillBase] at same
  omega

/-- Settles O17: the search over the candidates of a bucket, which are distinct. -/
theorem searchFindsTheFirstMatch : Obligations.SearchFindsTheFirstMatch := by
  unfold Obligations.SearchFindsTheFirstMatch
  intro t seed d k
  have found : t.search seed d k = _ := FlowTable.searchIn_eq d k (candidates (bucket seed d k)) (candidates_nodup _) t
  rw [found]
  exact ⟨rfl, rfl⟩

/-! ### The placement (R25) -/

theorem find?_map_range {f : Nat → Nat} {p : Nat → Bool} {n i : Nat} (inRange : i < n) (holds : p (f i) = true)
    (first : ∀ j, j < i → p (f j) = false) : ((List.range n).map f).find? p = some (f i) := by
  have found : (List.range n).find? (p ∘ f) = some i :=
    List.find?_range_eq_some.mpr ⟨holds, List.mem_range.mpr inRange, fun j less => by simp [first j less]⟩
  rw [List.find?_map, found]
  rfl

theorem find?_map_range_none {f : Nat → Nat} {p : Nat → Bool} {n : Nat} (none_ : ∀ j, j < n → p (f j) = false) :
    ((List.range n).map f).find? p = none := by
  rw [List.find?_eq_none]
  intro x m
  obtain ⟨j, inRange, rfl⟩ := List.mem_map.mp m
  simp [none_ j (List.mem_range.mp inRange)]

/-- Settles O18: the candidates are the ways and then the spill entries, each in rising order. -/
theorem placementChoosesTheLowestFree : Obligations.PlacementChoosesTheLowestFree := by
  unfold Obligations.PlacementChoosesTheLowestFree
  intro t b
  dsimp only
  have free : ∀ h, decide ((t.dir h).state = .free) = true ↔ (t.dir h).state = .free := fun h => decide_eq_true_iff
  have ways : ∀ {n}, (∀ j, j < n → ¬ (t.dir (b.toNat * 4 + j)).state = .free) →
      ∀ j, j < n → decide ((t.dir (b.toNat * 4 + j)).state = .free) = false :=
    fun taken j less => decide_eq_false (taken j less)
  have spills : ∀ {n}, (∀ j, j < n → ¬ (t.dir (8192 + j)).state = .free) →
      ∀ j, j < n → decide ((t.dir (Config.spillBase + j)).state = .free) = false :=
    fun taken j less => decide_eq_false (taken j less)
  unfold FlowTable.placement candidates
  refine ⟨fun i inRange isFree lower => ?_, fun e inRange waysTaken isFree lower => ?_, fun waysTaken spillsTaken => ?_⟩
  · rw [List.find?_append, find?_map_range inRange (decide_eq_true isFree) (ways lower)]
    rfl
  · rw [List.find?_append, find?_map_range_none (ways waysTaken),
      find?_map_range inRange (decide_eq_true isFree) (spills lower)]
    rfl
  · rw [List.find?_append, find?_map_range_none (ways waysTaken), find?_map_range_none (spills spillsTaken)]
    rfl

/-! ### Damage, freeing, closing, creation, holds (R13, R15, R33, R34, R114, R120, R130) -/

/-- Slots that agree in directory entry, body and error mark are the same. -/
theorem FlowTable.OthersKept.of_fields {u : FlowTable} (dir : ∀ k, k ≠ h → u.dir k = t.dir k)
    (body : ∀ k, k ≠ h → u.body k = t.body k) (bad : ∀ k, k ≠ h → u.bad k = t.bad k) : FlowTable.OthersKept t u h :=
  fun k other => FlowTable.slot_ext (dir k other) (body k other) (bad k other)

theorem FlowTable.damage_others (t : FlowTable) (h : Nat) : FlowTable.OthersKept t (t.damage h) h :=
  .of_fields (fun k other => by rw [FlowTable.dir_damage, if_neg other])
    (fun k other => by rw [FlowTable.body_damage, if_neg other]) fun k _ => FlowTable.bad_damage ..

theorem FlowTable.free_others (t : FlowTable) (h : Nat) : FlowTable.OthersKept t (t.free h) h :=
  .of_fields (fun k other => by rw [FlowTable.dir_free, if_neg other]) (fun k _ => FlowTable.body_free ..)
    fun k _ => FlowTable.bad_free ..

theorem FlowTable.close_others (t : FlowTable) (h : Nat) (r : CloseReason) :
    FlowTable.OthersKept t (t.close h r false) h :=
  .of_fields (fun k other => by rw [FlowTable.dir_close, if_neg other])
    (fun k other => by rw [FlowTable.body_close, if_neg other]) fun k _ => FlowTable.bad_close ..

theorem FlowTable.create_others (t : FlowTable) (h : Nat) (x : RecState) (d : Fin 16) (b : Body) :
    FlowTable.OthersKept t (t.create h x d b) h :=
  .of_fields (fun k other => by rw [FlowTable.dir_create, if_neg other])
    (fun k other => by rw [FlowTable.body_create, if_neg other]) fun k other => by rw [FlowTable.bad_create, if_neg other]

theorem FlowTable.release_others (t : FlowTable) (h now : Nat) : FlowTable.OthersKept t (t.release h now) h :=
  .of_fields (fun k other => by rw [FlowTable.dir_release, if_neg other])
    (fun k other => by rw [FlowTable.body_release, if_neg other]) fun k _ => FlowTable.bad_release ..

theorem FlowTable.holdRule_others (t : FlowTable) (h now ticks : Nat) :
    FlowTable.OthersKept t (t.holdRule h now ticks) h := by
  rcases Nat.eq_zero_or_pos ticks with rfl | some_
  · by_cases held : (t.dir h).state = .held
    · rw [FlowTable.holdRule_zero_held _ _ now held]; exact t.release_others h now
    · rw [FlowTable.holdRule_zero_other _ _ now held]; exact fun _ _ => rfl
  · exact .of_fields (fun k other => by rw [FlowTable.dir_holdRule _ _ _ now ticks some_, if_neg other])
      (fun k other => by rw [FlowTable.body_holdRule _ _ _ now ticks some_, if_neg other]) fun k _ => FlowTable.bad_holdRule ..

/-- What damage makes of a table (R34). -/
theorem FlowTable.damage_effect (t : FlowTable) (h : Nat) :
    (t.damage h).dir h = { t.dir h with state := .closing, closeReason := some .damaged }
    ∧ (t.damage h).body h = { t.body h with deadline := none, holdEnd := none, reported := none }
    ∧ (t.damage h).bad h = t.bad h ∧ FlowTable.OthersKept t (t.damage h) h ∧ (t.damage h).counts = t.counts
    ∧ (t.damage h).learned = t.learned.filter (· ≠ h)
    ∧ (t.damage h).closed = (if (t.dir h).state = .closing then t.closed else t.closed ++ [h])
    ∧ (∀ p, p ∈ (t.damage h).expiryQ ↔ p ∈ t.expiryQ ∧ p.2 ≠ h)
    ∧ ∀ p, p ∈ (t.damage h).holdQ ↔ p ∈ t.holdQ ∧ p.2 ≠ h := by
  refine ⟨by simp [FlowTable.dir_damage], by simp [FlowTable.body_damage], by simp, t.damage_others h, by simp, by simp,
    by simp, fun p => ?_, fun p => ?_⟩
  · rw [FlowTable.damage_expiryQ, mem_queueRemove]
  · rw [FlowTable.damage_holdQ, mem_queueRemove]

/-- What freeing makes of a table (R15). -/
theorem FlowTable.free_effect (t : FlowTable) (h : Nat) :
    (t.free h).dir h = { t.dir h with state := .free, generation := (t.dir h).generation + 1#8, closeReason := none }
    ∧ (t.free h).body h = t.body h ∧ (t.free h).bad h = t.bad h ∧ FlowTable.OthersKept t (t.free h) h
    ∧ (∀ d, (t.free h).count d = if d = (t.dir h).domain then t.count d - 1 else t.count d)
    ∧ (t.free h).learned = t.learned.filter (· ≠ h) ∧ (t.free h).closed = t.closed.filter (· ≠ h)
    ∧ (∀ p, p ∈ (t.free h).expiryQ ↔ p ∈ t.expiryQ ∧ p.2 ≠ h)
    ∧ ∀ p, p ∈ (t.free h).holdQ ↔ p ∈ t.holdQ ∧ p.2 ≠ h := by
  refine ⟨by simp [FlowTable.dir_free], by simp, by simp, t.free_others h, fun d => ?_, by simp, by simp, fun p => ?_,
    fun p => ?_⟩
  · rw [FlowTable.count_free]
  · rw [FlowTable.free_expiryQ, mem_queueRemove]
  · rw [FlowTable.free_holdQ, mem_queueRemove]

/-- What closing without auto-release makes of a table (R130). -/
theorem FlowTable.close_effect (t : FlowTable) (h : Nat) (r : CloseReason) :
    (t.close h r false).dir h = { t.dir h with state := .closing, closeReason := some r }
    ∧ (t.close h r false).body h = { t.body h with deadline := none, holdEnd := none }
    ∧ (t.close h r false).bad h = t.bad h ∧ FlowTable.OthersKept t (t.close h r false) h
    ∧ (t.close h r false).counts = t.counts ∧ (t.close h r false).learned = t.learned
    ∧ (t.close h r false).closed = t.closed ++ [h]
    ∧ (∀ p, p ∈ (t.close h r false).expiryQ ↔ p ∈ t.expiryQ ∧ p.2 ≠ h)
    ∧ ∀ p, p ∈ (t.close h r false).holdQ ↔ p ∈ t.holdQ ∧ p.2 ≠ h := by
  refine ⟨by simp [FlowTable.dir_close], by simp [FlowTable.body_close], by simp, t.close_others h r, by simp, by simp,
    by simp, fun p => ?_, fun p => ?_⟩
  · rw [FlowTable.close_expiryQ, mem_queueRemove]
  · rw [FlowTable.close_holdQ, mem_queueRemove]

/-- A storage event puts an error into one body and shows nothing (R33). -/
theorem FlowTable.struck_effect (t : FlowTable) (h : Nat) :
    (t.setSlot h { t.slot h with bad := true }).bad h = true
    ∧ (t.setSlot h { t.slot h with bad := true }).dir h = t.dir h
    ∧ (t.setSlot h { t.slot h with bad := true }).body h = t.body h
    ∧ FlowTable.OthersKept t (t.setSlot h { t.slot h with bad := true }) h := by
  refine ⟨?_, ?_, ?_, fun k other => by rw [FlowTable.slot_setSlot, if_neg other]⟩
  · rw [FlowTable.bad, FlowTable.slot_setSlot, if_pos rfl]
  · rw [FlowTable.dir, FlowTable.slot_setSlot, if_pos rfl]; rfl
  · rw [FlowTable.body, FlowTable.slot_setSlot, if_pos rfl]; rfl

theorem exec_uncorrectableError (s : State) (inTable : h < Config.slots) : exec (.uncorrectableError h) s =
    .next { s with table := s.table.setSlot h { s.table.slot h with bad := true } } := by
  change (.next (if h < Config.slots then _ else s) : Answer) = _
  rw [if_pos inTable]

/-- Settles O19: the fields after damage, after a storage event, after freeing and after closing. -/
theorem damageFreeingAndClosing : Obligations.DamageFreeingAndClosing := by
  unfold Obligations.DamageFreeingAndClosing
  refine ⟨FlowTable.damage_effect, fun s h inTable => ?_, FlowTable.free_effect, fun t h r =>
    ⟨FlowTable.close_auto t h r, t.close_effect h r⟩⟩
  obtain ⟨bad, dir, body, others⟩ := s.table.struck_effect h
  exact ⟨_, exec_uncorrectableError s inTable, bad, dir, body, others, rfl, rfl, rfl, rfl, rfl⟩

/-- Settles O20: creation writes the directory entry, the body and the count, and enters the queue and the list. -/
theorem creationWritesTheWholeRecord : Obligations.CreationWritesTheWholeRecord := by
  unfold Obligations.CreationWritesTheWholeRecord
  intro t h x d b
  refine ⟨by simp [FlowTable.dir_create], by simp [FlowTable.body_create], by simp [FlowTable.bad_create],
    t.create_others h x d b, fun e => ?_, by simp, by simp, by simp, fun absent => ?_, fun w armed k => ?_⟩
  · rw [FlowTable.count_create]
  · rw [FlowTable.create_expiryQ, absent]
  · rw [FlowTable.create_expiryQ, armed]
    exact queueTime_rearm h k w t.expiryQ

/-- Settles O21: above 0 ticks the hold rule is one hold; at 0 ticks it is the release of a HELD record, or nothing. -/
theorem holdRuleHoldsReplacesAndReleases : Obligations.HoldRuleHoldsReplacesAndReleases := by
  unfold Obligations.HoldRuleHoldsReplacesAndReleases
  intro t h now ticks live
  dsimp only
  refine ⟨fun some_ => ⟨?_, ?_, fun p => ?_, fun k => ?_⟩, ?_, ?_, by simp, t.holdRule_others h now ticks, by simp, by simp,
    by simp⟩
  · rw [FlowTable.dir_holdRule _ _ _ now ticks some_, if_pos rfl]
  · rw [FlowTable.body_holdRule _ _ _ now ticks some_, if_pos rfl]; rfl
  · rw [show (t.holdRule h now ticks).expiryQ = queueRemove h t.expiryQ by simp [FlowTable.holdRule, some_],
      mem_queueRemove]
  · rw [show (t.holdRule h now ticks).holdQ = queueInsert (clampTime now ticks) h (queueRemove h t.holdQ) by
      simp [FlowTable.holdRule, some_]]
    exact queueTime_rearm h k _ t.holdQ
  · rintro rfl active
    exact FlowTable.holdRule_zero_other t h now (by simp [active])
  · rintro rfl held
    rw [FlowTable.holdRule_zero_held t h now held]
    refine ⟨?_, fun p => ?_, fun unleased => ⟨?_, ?_⟩, fun leased => ⟨?_, fun k => ?_⟩⟩
    · rw [FlowTable.dir_release, if_pos rfl]
    · rw [FlowTable.release_holdQ, mem_queueRemove]
    · rw [FlowTable.body_release, if_pos rfl]; simp [unleased]
    · rw [FlowTable.release_expiryQ]; simp [unleased]
    · rw [FlowTable.body_release, if_pos rfl]; simp [leased, clampTime, Config.timeMax]
    · rw [FlowTable.release_expiryQ, if_pos leased]
      exact queueTime_rearm h k _ t.expiryQ

end Sys2Proof.Machine
end

section
/-! PROOF. The management port's registers: index writes, causes and the interrupt line, CONTROL writes, window writes and reads,
and the slots of the window (R139 to R144, R149, R151 to R153, R179). -/

namespace Sys2Proof.Machine

variable {s : State}

/-! ### Index writes (R143, R149) -/

theorem exec_cmdProducerWrite (v : Word) (s : State) : exec (.cmdProducerWrite v) s = .next (s.writeCmdProducer v) := rfl

theorem exec_cplConsumerWrite (v : Word) (s : State) : exec (.cplConsumerWrite v) s = .next (s.writeCplConsumer v) := rfl

/-- Settles O22: each test of an index write refuses or takes the whole write. -/
theorem indexWritesAreTested : Obligations.IndexWritesAreTested := by
  unfold Obligations.IndexWritesAreTested
  refine ⟨fun s v => ⟨fun inRange more fits => ?_, fun refused => ?_⟩, fun s v => ⟨fun inRange fewer => ?_, fun refused => ?_⟩⟩
  · rw [exec_cmdProducerWrite, State.writeCmdProducer]
    exact congrArg _ (if_neg (by simp only [Port.occupancy, Config.commandSlots]; omega))
  · rw [exec_cmdProducerWrite, State.writeCmdProducer]
    exact congrArg _ (if_pos (by simp only [Port.occupancy, Config.commandSlots]; omega))
  · rw [exec_cplConsumerWrite, State.writeCplConsumer]
    exact congrArg _ (if_neg (by simp only [Port.entries]; omega))
  · rw [exec_cplConsumerWrite, State.writeCplConsumer]
    exact congrArg _ (if_pos (by simp only [Port.entries]; omega))

/-! ### Causes (R151, R152) -/

/-- A word is not 0 exactly when one of its bits is set. -/
theorem Word.ne_zero_iff (w : Word) : w ≠ 0#32 ↔ ∃ i, i < 32 ∧ w.getLsbD i = true := by
  constructor
  · intro n
    by_contra none_
    push Not at none_
    exact n (BitVec.eq_of_getLsbD_eq fun i less => by simpa using none_ i less)
  · rintro ⟨i, -, set⟩ rfl
    simp at set

theorem bitIf_getLsbD (i : Nat) (b : Bool) (j : Nat) (inWord : i < 32) : (bitIf i b).getLsbD j = (b && decide (j = i)) := by
  unfold bitIf
  cases b with
  | false => simp
  | true =>
    simp only [if_true, BitVec.getLsbD_shiftLeft, BitVec.getLsbD_one, Bool.true_and]
    by_cases e : j = i
    · subst e; simp [inWord]
    · simp only [e, decide_false]
      by_cases less : j < i
      · simp [less]
      · simp; omega

theorem State.levelCauses_cpl (s : State) : s.levelCauses.getLsbD 0 = decide (s.port.entries > 0) := by
  simp only [State.levelCauses, BitVec.getLsbD_or, bitIf_getLsbD _ _ _ (by omega : 0 < 32), bitIf_getLsbD _ _ _ (by omega : 1 < 32), bitIf_getLsbD _ _ _ (by omega : 2 < 32)]
  simp

theorem State.levelCauses_high (s : State) {i : Nat} (high : 3 ≤ i) : s.levelCauses.getLsbD i = false := by
  have apart : i ≠ 0 ∧ i ≠ 1 ∧ i ≠ 2 := by omega
  simp [State.levelCauses, bitIf_getLsbD, apart]

/-- No level cause is latched, so that the bits of the level causes are those of their conditions. -/
theorem State.latched_level {s : State} (noLevel : s.port.latched &&& 7#32 = 0#32) {i : Nat} (level : i < 3) :
    s.port.latched.getLsbD i = false := by
  have bit := congrArg (fun w : Word => w.getLsbD i) noLevel
  have seven : (7#32).getLsbD i = true := by
    have : i = 0 ∨ i = 1 ∨ i = 2 := by omega
    rcases this with rfl | rfl | rfl <;> rfl
  simpa [seven] using bit

theorem causeMask_getLsbD (i : Nat) : causeMask.getLsbD i = decide (i < 5 ∨ (8 ≤ i ∧ i < 12)) := by
  by_cases inWord : i < 32
  · interval_cases i <;> rfl
  · rw [BitVec.getLsbD_of_ge _ _ (Nat.le_of_not_lt inWord)]
    simp
    omega

/-- Settles O23: bit by bit of the level causes, the latched causes and the enables. -/
theorem causesAndTheInterruptLine : Obligations.CausesAndTheInterruptLine := by
  unfold Obligations.CausesAndTheInterruptLine
  refine ⟨fun s => ?_, fun s noLevel => ⟨?_, ?_, ?_, fun i high => ?_⟩, fun s v => ⟨s.port.latched &&& ~~~v, rfl, fun i => ?_⟩,
    fun s v => ⟨v &&& causeMask, rfl, fun i => ?_⟩⟩
  · simp only [State.interruptLine, decide_eq_true_eq, Word.ne_zero_iff, BitVec.getLsbD_and, Bool.and_eq_true]
  · rw [State.causes, BitVec.getLsbD_or, State.levelCauses_cpl, State.latched_level noLevel (by omega)]
    simp
  · rw [State.causes, BitVec.getLsbD_or, State.levelCauses_learned, State.latched_level noLevel (by omega)]
    simp
  · rw [State.causes, BitVec.getLsbD_or, State.levelCauses_closed, State.latched_level noLevel (by omega)]
    simp
  · rw [State.causes, BitVec.getLsbD_or, State.levelCauses_high s high, Bool.false_or]
  · by_cases inWord : i < 32
    · simp [inWord]
    · simp [BitVec.getLsbD_of_ge s.port.latched i (Nat.le_of_not_lt inWord)]
  · rw [BitVec.getLsbD_and, causeMask_getLsbD]

/-! ### CONTROL writes (R142, R153) -/

theorem State.writeControl_run {v : Word} (plain : v.getLsbD 1 = false) :
    s.writeControl v = { s with port := { s.port with run := v.getLsbD 0 } } := by
  simp only [State.writeControl, plain, Bool.false_eq_true, if_false]

theorem State.writeControl_reset {v : Word} (reset : v.getLsbD 1 = true) :
    s.writeControl v = ({ s with port := { s.port with run := v.getLsbD 0 } } : State).portReset := by
  simp only [State.writeControl, reset, if_true]

theorem exec_runEnableWrite (v : Word) (s : State) : exec (.runEnableWrite v) s = .next (s.writeControl v) := rfl

theorem exec_portReset (v : Word) (s : State) : exec (.portReset v) s = .next (s.writeControl v) := rfl

theorem State.portReset_chan (s : State) (c : Fin 4) : s.portReset.chan c = (s.chan c).portReset := by
  simp [State.portReset, State.chan]

theorem Channel.portReset_draining {ch : Channel} (draining : ch.state = .draining) : ch.portReset = { ch with
    state := .disabled, queue := [], waitingAnswers := [], unanswered := 0, presented := false, closePending := none,
    lane := ch.lane ++ [.closeNotice .reset] } := by
  simp [Channel.portReset, draining, Channel.discard, Channel.send]

theorem Channel.portReset_other {ch : Channel} (other : ch.state ≠ .draining) : ch.portReset = ch := by
  unfold Channel.portReset
  split
  next draining => exact absurd draining other
  all_goals rfl

/-- Whose operation a port reset takes from it (R65, R154, R178). -/
theorem State.cutByPortReset_iff (s : State) (r : Requester) : s.cutByPortReset r = true ↔
    r = .cp ∨ r = .su ∨ ∃ c, r = .lc c ∧ (s.chan c).state = .draining := by
  cases r with
  | lc c => simp [State.cutByPortReset]
  | cp | su | lt => simp [State.cutByPortReset]

/-- Settles O24: bit 1 decides whether the write is a port reset, which acts on each block alone. -/
theorem controlWritesSetRunAndResetThePort : Obligations.ControlWritesSetRunAndResetThePort := by
  unfold Obligations.ControlWritesSetRunAndResetThePort
  refine ⟨fun s v plain => ?_, fun s v reset => ⟨({ s with port := { s.port with run := v.getLsbD 0 } } : State).portReset, ?_,
    rfl, rfl, rfl, fun c draining => ?_, fun c other => ?_, fun free => ?_,
    fun op atTable => ⟨op.abandoned || s.cutByPortReset op.requester, ?_, ?_⟩, rfl, rfl, rfl, rfl, rfl, rfl, rfl, rfl⟩⟩
  · rw [exec_runEnableWrite, State.writeControl_run plain]
  · rw [exec_portReset, State.writeControl_reset reset]
  · rw [State.portReset_chan]; exact Channel.portReset_draining draining
  · rw [State.portReset_chan]; exact Channel.portReset_other other
  · simp [State.portReset, free]
  · simp only [State.portReset, atTable, Option.map_some]; rfl
  · rw [Bool.or_eq_true, State.cutByPortReset_iff]

/-! ### Window writes (R139, R144, R179) -/

theorem exec_causeWrite (v : Word) (s : State) : exec (.causeWrite v) s = .next (s.writeCause v) := rfl

theorem exec_causeEnableWrite (v : Word) (s : State) : exec (.causeEnableWrite v) s = .next (s.writeEnables v) := rfl

/-- A command slot's word takes the four bytes of the write. -/
theorem State.writeWord_slot (s : State) {o : BitVec 12} (v : Word) (low : 0x100 ≤ o.toNat / 4 * 4) (high : o.toNat / 4 * 4 < 0x400) :
    s.writeWord o v = { s with port := { s.port with window := storeLE s.port.window (o.toNat / 4 * 4) 4 v.toNat } } := by
  unfold State.writeWord
  dsimp only
  rw [if_neg (by omega), if_neg (by omega), if_neg (by omega), if_neg (by omega), if_neg (by omega), if_pos ⟨low, high⟩]

/-- Every other word without a row of its own ignores the write. -/
theorem State.writeWord_ignored (s : State) {o : BitVec 12} (v : Word) (plain : isControlWord o = false)
    (outside : o.toNat / 4 * 4 < 0x100 ∨ 0x400 ≤ o.toNat / 4 * 4) : s.writeWord o v = s := by
  simp only [isControlWord, Bool.or_eq_false_iff, beq_eq_false_iff_ne] at plain
  obtain ⟨⟨⟨⟨control, cause⟩, enables⟩, producer⟩, consumer⟩ := plain
  unfold State.writeWord
  dsimp only
  rw [if_neg control, if_neg cause, if_neg enables, if_neg producer, if_neg consumer, if_neg (by omega)]

theorem ofNat_byte (v : Word) (j : Nat) : BitVec.ofNat 8 (v.toNat / 256 ^ j) = v.extractLsb' (8 * j) 8 := by
  apply BitVec.eq_of_toNat_eq
  rw [BitVec.toNat_ofNat, BitVec.extractLsb'_toNat, Nat.shiftRight_eq_div_pow, Nat.pow_mul]

/-- Settles O25: by the range of the word's offset. -/
theorem windowWriteStoresCommandSlotBytes : Obligations.WindowWriteStoresCommandSlotBytes := by
  unfold Obligations.WindowWriteStoresCommandSlotBytes
  intro s o v
  refine ⟨fun low high => ⟨storeLE s.port.window (o.toNat / 4 * 4) 4 v.toNat, ?_, fun j less => ?_, fun n apart => ?_⟩, fun plain outside => ?_, fun word _ => ?_, fun word _ => ?_,
    fun word => ?_, fun word => ?_, fun word => ?_, fun word => ?_⟩
  · rw [exec_windowWrite, s.writeWord_slot v low high]
  · rw [loadByte_storeLE, if_pos (by omega), Nat.add_sub_cancel_left, ofNat_byte]
  · rw [loadByte_storeLE, if_neg]
    intro ⟨least, most⟩
    exact apart (n - o.toNat / 4 * 4) (by omega) (by omega)
  · rw [exec_windowWrite, s.writeWord_ignored v plain outside]
  all_goals
    rw [exec_windowWrite]
    unfold State.writeWord
    simp only [word]
    rfl

/-! ### Window reads (R139, R140) -/

theorem loadLE_lt (m : List Host.Cell) (n : Nat) : ∀ off, loadLE m off n < 2 ^ (8 * n) := by
  induction n with
  | zero => intro off; simp [loadLE]
  | succ n ih =>
    intro off
    have tail := ih (off + 1)
    have byte := (loadByte m off).isLt
    rw [loadLE, Nat.mul_succ, Nat.pow_add]
    omega

/-- Each byte of a loaded field is the byte that stands there (R179). -/
theorem loadLE_byte (m : List Host.Cell) (n : Nat) :
    ∀ off j, j < n → loadLE m off n / 256 ^ j % 256 = (loadByte m (off + j)).toNat := by
  induction n with
  | zero => intro off j less; omega
  | succ n ih =>
    intro off j less
    have byte := (loadByte m off).isLt
    cases j with
    | zero => simp only [loadLE, Nat.pow_zero, Nat.div_one, Nat.add_zero]; omega
    | succ j =>
      have tail := ih (off + 1) j (by omega)
      rw [loadLE, Nat.pow_succ', ← Nat.div_div_eq_div_mul,
        show ((loadByte m off).toNat + 256 * loadLE m (off + 1) n) / 256 = loadLE m (off + 1) n by omega, tail, Nat.add_right_comm,
        Nat.add_assoc]

theorem bitIf_toNat {i : Nat} (inWord : i < 32) (b : Bool) : (bitIf i b).toNat = flagCode b * 2 ^ i := by
  cases b with
  | false => simp [bitIf, flagCode]
  | true =>
    have fits : 2 ^ i < 2 ^ 32 := Nat.pow_lt_pow_right (by omega) inWord
    rw [bitIf, if_pos rfl, BitVec.toNat_shiftLeft, flagCode, if_pos rfl, Nat.one_mul, BitVec.toNat_ofNat, Nat.one_mod,
      Nat.one_shiftLeft, Nat.mod_eq_of_lt fits]

/-- A field of a word that lies above what it holds is added. -/
theorem Word.toNat_or_field {w : Word} {low k v : Nat} (held : w.toNat = low) (below : low < 2 ^ k) (fits : v * 2 ^ k < 2 ^ 32) :
    (w ||| BitVec.ofNat 32 (v * 2 ^ k)).toNat = low + v * 2 ^ k := by
  rw [BitVec.toNat_or, BitVec.toNat_ofNat, Nat.mod_eq_of_lt fits, held, Nat.or_comm, Nat.mul_comm,
    ← Nat.two_pow_add_eq_or_of_lt below, Nat.add_comm]

theorem flagCode_lt (b : Bool) : flagCode b < 2 := by cases b <;> decide

theorem ChanState.code_lt (x : ChanState) : x.code < 4 := by cases x <;> decide

theorem SweepState.code_lt (x : SweepState) : x.code < 5 := by cases x <;> decide

theorem Word.toNat_ofNat_of_lt {v : Nat} (fits : v < 2 ^ 32) : (BitVec.ofNat 32 v).toNat = v := by
  rw [BitVec.toNat_ofNat, Nat.mod_eq_of_lt fits]

/-- STATUS as the sum of its fields, each at its place (R140). -/
theorem State.status_toNat (s : State) : s.status.toNat = flagCode s.port.ready + flagCode s.port.run * 2 ^ 1
    + s.sweep.state.code * 2 ^ 4 + (s.chan 0).state.code * 2 ^ 8 + (s.chan 1).state.code * 2 ^ 10
    + (s.chan 2).state.code * 2 ^ 12 + (s.chan 3).state.code * 2 ^ 14 := by
  have ready := flagCode_lt s.port.ready
  have run := flagCode_lt s.port.run
  have sweep := s.sweep.state.code_lt
  have chan := fun c => (s.chan c).state.code_lt
  have chan0 := chan 0
  have chan1 := chan 1
  have chan2 := chan 2
  have chan3 := chan 3
  have flags : (bitIf 0 s.port.ready ||| bitIf 1 s.port.run).toNat = flagCode s.port.ready + flagCode s.port.run * 2 ^ 1 := by
    cases s.port.ready <;> cases s.port.run <;> rfl
  exact Word.toNat_or_field (k := 14) (Word.toNat_or_field (k := 12) (Word.toNat_or_field (k := 10) (Word.toNat_or_field (k := 8)
    (Word.toNat_or_field (k := 4) flags (by omega) (by omega)) (by omega) (by omega)) (by omega) (by omega)) (by omega) (by omega))
    (by omega) (by omega)

/-- Settles O26: by the word's offset; STATUS by the sum of its fields, a slot word byte by byte. -/
theorem windowReadsAreTheRegisters : Obligations.WindowReadsAreTheRegisters := by
  unfold Obligations.WindowReadsAreTheRegisters
  intro s o cmdProducer cmdConsumer cplProducer cplConsumer
  refine ⟨fun word => ?_, fun word => ?_, fun word => ?_, fun word => ?_, fun word => ?_, fun word => ?_, fun word => ?_,
    fun word => ?_, fun word => ?_, fun word => ?_, fun word => ?_, fun low high j less => ?_, fun unlisted => ?_⟩
  case refine_2 =>
    have ready := flagCode_lt s.port.ready
    have run := flagCode_lt s.port.run
    have sweep := s.sweep.state.code_lt
    have chan := fun c => (s.chan c).state.code_lt
    have chan0 := chan 0
    have chan1 := chan 1
    have chan2 := chan 2
    have chan3 := chan 3
    have read : s.readWord o = s.status := by
      unfold State.readWord
      simp only [word]
      rfl
    rw [read, s.status_toNat]
    refine ⟨by omega, by omega, by omega, fun c => ?_, by omega, by omega, by omega⟩
    match c with
    | 0 => show _ / 2 ^ 8 % 4 = _; omega
    | 1 => show _ / 2 ^ 10 % 4 = _; omega
    | 2 => show _ / 2 ^ 12 % 4 = _; omega
    | 3 => show _ / 2 ^ 14 % 4 = _; omega
  case refine_12 =>
    have read : s.readWord o = BitVec.ofNat 32 (loadLE s.port.window (o.toNat / 4 * 4) 4) := by
      unfold State.readWord
      dsimp only
      repeat rw [if_neg (by omega)]
      rw [if_pos ⟨low, high⟩]
    rw [read, Word.toNat_ofNat_of_lt (loadLE_lt ..), loadLE_byte _ _ _ _ less]
  case refine_13 =>
    unfold State.readWord
    dsimp only
    repeat rw [if_neg (by omega)]
    rfl
  all_goals
    unfold State.readWord
    simp only [word]
  · rfl
  · simpa using bitIf_toNat (i := 0) (by omega) s.port.run
  · rfl
  · rfl
  · exact Word.toNat_ofNat_of_lt (by omega)
  · exact Word.toNat_ofNat_of_lt (by omega)
  · exact Word.toNat_ofNat_of_lt (by omega)
  · exact Word.toNat_ofNat_of_lt (by omega)
  · exact BitVec.toNat_ofNat ..
  · exact BitVec.toNat_setWidth_of_le (by decide : 16 ≤ 32)

/-! ### Slots of the window (R143, R144, R149, R179) -/

/-- Settles O28: byte by byte of the slot, and a field by its first byte. -/
theorem slotsHoldDescriptorsAndRecords : Obligations.SlotsHoldDescriptorsAndRecords := by
  unfold Obligations.SlotsHoldDescriptorsAndRecords
  refine ⟨fun s tag kind st r => ⟨fun j less => ?_, fun n outside => ?_, rfl, rfl, rfl⟩, fun s i j less => ?_, fun d off n => ?_⟩
  · rw [State.post, loadByte_storeLE, if_pos (by rw [completionOffset]; simp only [Config.completionSlots]; omega)]
    rw [BitVec.toNat_ofNat]
    simp [completionOffset, Config.completionSlots]
  · rw [State.post, loadByte_storeLE, if_neg (by rw [completionOffset]; simp only [Config.completionSlots]; omega)]
  · rw [fieldAt, State.descriptorAt, BitVec.toNat_ofNat, Nat.mod_eq_of_lt (loadLE_lt ..), Nat.pow_mul]
    exact loadLE_byte _ _ _ _ less
  · simp only [fieldAt]
    rw [show 8 * (n + 1) = 8 * 1 + 8 * n by omega, Nat.pow_add, Nat.mod_mul, Nat.div_div_eq_div_mul, ← Nat.pow_add,
      Nat.mul_add 8 off 1]

end Sys2Proof.Machine
end

section
/-! PROOF. The layout of a completion record: fields that ascend without sharing a bit are read back one by one, and what lies
between them is 0 (R149, R150, R182). -/

namespace Sys2Proof.Machine

/-! ### Fields of a number -/

/-- The number that holds fields, each given by its first bit, its width and its value. -/
def placeAll : List (Nat × Nat × Nat) → Nat
  | [] => 0
  | (off, width, v) :: fs => place off width v + placeAll fs

/-- Fields in ascending order that share no bit, from a bit on. -/
def Ascending (low : Nat) : List (Nat × Nat × Nat) → Prop
  | [] => True
  | (off, width, _) :: fs => low ≤ off ∧ Ascending (off + width) fs

theorem place_lt (off width v : Nat) : place off width v < 2 ^ (off + width) := by
  rw [place, Nat.add_comm off, Nat.pow_add]
  exact Nat.mul_lt_mul_of_pos_right (Nat.mod_lt _ (Nat.two_pow_pos _)) (Nat.two_pow_pos _)

/-- Fields that start at a bit leave those below it 0. -/
theorem placeAll_dvd : ∀ {fs : List (Nat × Nat × Nat)} {low : Nat}, Ascending low fs → 2 ^ low ∣ placeAll fs
  | [], _, _ => Nat.dvd_zero _
  | (off, width, v) :: fs, low, ⟨above, rest⟩ => by
    refine Nat.dvd_add ((Nat.pow_dvd_pow 2 above).trans (Nat.dvd_mul_left ..)) ?_
    exact (Nat.pow_dvd_pow 2 (by omega)).trans (placeAll_dvd rest)

/-- What stands below a bit is not seen above it. -/
theorem add_div_two_pow_of_lt {held rest bound off : Nat} (below : held < 2 ^ bound) (above : 2 ^ bound ∣ rest) (le : bound ≤ off) :
    (held + rest) / 2 ^ off = rest / 2 ^ off := by
  obtain ⟨q, rfl⟩ := above
  rw [show 2 ^ off = 2 ^ bound * 2 ^ (off - bound) by rw [← Nat.pow_add, Nat.add_sub_cancel' le], ← Nat.div_div_eq_div_mul,
    ← Nat.div_div_eq_div_mul, Nat.add_mul_div_left _ _ (Nat.two_pow_pos _), Nat.div_eq_of_lt below, Nat.zero_add,
    Nat.mul_div_cancel_left _ (Nat.two_pow_pos _)]

/-- A field of ascending fields ends no lower than they start. -/
theorem Ascending.le_of_mem : ∀ {fs : List (Nat × Nat × Nat)} {low : Nat}, Ascending low fs → ∀ f ∈ fs, low ≤ f.1
  | (_, _, _) :: _, _, ⟨above, _⟩, _, .head _ => above
  | (_, _, _) :: _, _, ⟨above, rest⟩, f, .tail _ inRest => by
    have := rest.le_of_mem f inRest
    omega

/-- A field is read back from its own bits. -/
theorem placeAll_read : ∀ {fs : List (Nat × Nat × Nat)} {low : Nat}, Ascending low fs →
    ∀ {off width v : Nat}, (off, width, v) ∈ fs → placeAll fs / 2 ^ off % 2 ^ width = v % 2 ^ width
  | (headOff, headWidth, headV) :: fs, _, ⟨_, rest⟩, off, width, v, inFields => by
    rcases List.mem_cons.1 inFields with isHead | inRest
    · cases isHead
      obtain ⟨q, held⟩ := placeAll_dvd rest
      rw [placeAll, held, place, Nat.pow_add, Nat.mul_assoc, Nat.mul_comm (_ % _), ← Nat.mul_add,
        Nat.mul_div_cancel_left _ (Nat.two_pow_pos _), Nat.add_mul_mod_self_left, Nat.mod_mod]
    · rw [placeAll, add_div_two_pow_of_lt (place_lt ..) (placeAll_dvd rest) (rest.le_of_mem _ inRest), placeAll_read rest inRest]

/-- The bits that no field has are 0. -/
theorem placeAll_gap : ∀ {fs : List (Nat × Nat × Nat)} {low : Nat}, Ascending low fs → ∀ {off width : Nat},
    (∀ f ∈ fs, off + width ≤ f.1 ∨ f.1 + f.2.1 ≤ off) → placeAll fs / 2 ^ off % 2 ^ width = 0
  | [], _, _, _, _, _ => by simp [placeAll]
  | (headOff, headWidth, headV) :: fs, _, ⟨_, rest⟩, off, width, apart => by
    rcases apart _ (.head _) with above | below
    · have all : Ascending (off + width) ((headOff, headWidth, headV) :: fs) := ⟨above, rest⟩
      obtain ⟨q, held⟩ := placeAll_dvd all
      rw [held, Nat.pow_add, Nat.mul_assoc, Nat.mul_div_cancel_left _ (Nat.two_pow_pos _), Nat.mul_mod_right]
    · rw [placeAll, add_div_two_pow_of_lt (place_lt ..) (placeAll_dvd rest) below]
      exact placeAll_gap rest fun f inRest => apart f (.tail _ inRest)

/-- Fields that end below a bit hold a number below it. -/
theorem placeAll_lt : ∀ {fs : List (Nat × Nat × Nat)} {low high : Nat}, Ascending low fs → (∀ f ∈ fs, f.1 + f.2.1 ≤ high) →
    placeAll fs < 2 ^ high
  | [], _, high, _, _ => Nat.two_pow_pos high
  | (off, width, v) :: fs, _, high, ⟨_, rest⟩, ends => by
    obtain ⟨q, held⟩ := placeAll_dvd rest
    have tail := placeAll_lt rest fun f inRest => ends f (.tail _ inRest)
    have headLt := place_lt off width v
    have split : 2 ^ high = 2 ^ (off + width) * 2 ^ (high - (off + width)) := by
      rw [← Nat.pow_add, Nat.add_sub_cancel' (ends _ (.head _))]
    rw [held, split] at tail
    rw [placeAll, held, split]
    have more : q + 1 ≤ 2 ^ (high - (off + width)) := Nat.lt_of_mul_lt_mul_left tail
    calc place off width v + 2 ^ (off + width) * q < 2 ^ (off + width) * (q + 1) := by rw [Nat.mul_succ]; omega
      _ ≤ _ := Nat.mul_le_mul_left _ more

/-! ### The record layout (R182) -/

theorem RecState.code_lt (x : RecState) : x.code < 8 := by cases x <;> decide

theorem Status.code_lt (x : Status) : x.code < 32 := by cases x <;> decide

theorem TimerField.kind_lt (x : TimerField) : x.kind < 4 := by cases x <;> simp [TimerField.kind]

/-- The fields of a completion that carries record fields, by their bits. -/
def recordLayout (tag : BitVec 16) (kind : Byte) (st : Status) (r : RecordFields) : List (Nat × Nat × Nat) :=
  [(0, 16, tag.toNat), (16, 8, kind.toNat), (24, 5, st.code), (29, 1, flagCode r.reliable), (30, 1, flagCode r.pinned),
    (31, 1, flagCode r.reported), (32, 14, r.handle), (46, 2, r.timer.kind), (48, 8, r.generation.toNat), (56, 3, r.state.code),
    (59, 3, r.origin), (62, 4, r.domain), (66, 6, r.profile), (72, 8, r.cls.toNat), (80, 16, r.leaseInterval), (96, 24, r.tokens),
    (120, 128, r.key.toNat), (248, 48, r.timer.value), (296, 48, r.meterTime), (344, 48, r.created), (392, 40, r.packets),
    (432, 48, r.bytes), (480, 32, r.exceeds)]

theorem recordLayout_ascending (tag : BitVec 16) (kind : Byte) (st : Status) (r : RecordFields) :
    Ascending 0 (recordLayout tag kind st r) := by
  simp [recordLayout, Ascending]

theorem completionBits_record (tag : BitVec 16) (kind : Byte) (st : Status) (r : RecordFields) :
    completionBits tag kind st (.record r) = placeAll (recordLayout tag kind st r) := by
  simp only [completionBits, Results.bits, RecordFields.bits, placeBytes, recordLayout, placeAll, Nat.add_assoc, Nat.reduceMul,
    Nat.add_zero]

/-! ### The layouts of whole bytes (R150, R180, R182) -/

/-- Fields of whole bytes, by their bits. -/
def byteFields (fields : List (Nat × Nat × Nat)) : List (Nat × Nat × Nat) :=
  fields.map fun f => (8 * f.1, 8 * f.2.1, f.2.2)

/-- A completion whose results are fields of whole bytes. -/
theorem completion_laid {r : Results} {fields : List (Nat × Nat × Nat)} (tag : BitVec 16) (kind : Byte) (st : Status)
    (results : r.bits = placeAll (byteFields fields)) (ascending : Ascending 32 (byteFields fields))
    (ends : ∀ f ∈ fields, f.1 + f.2.1 ≤ 64) :
    completionBits tag kind st r < 2 ^ 512
      ∧ completionBits tag kind st r / 256 ^ 0 % 256 ^ 2 = tag.toNat ∧ completionBits tag kind st r / 256 ^ 2 % 256 ^ 1 = kind.toNat
      ∧ completionBits tag kind st r / 256 ^ 3 % 256 ^ 1 = st.code
      ∧ (∀ f ∈ fields, completionBits tag kind st r / 256 ^ f.1 % 256 ^ f.2.1 = f.2.2 % 256 ^ f.2.1)
      ∧ ∀ j, 4 ≤ j → (∀ f ∈ fields, j < f.1 ∨ f.1 + f.2.1 ≤ j) → completionBits tag kind st r / 256 ^ j % 256 ^ 1 = 0 := by
  have code : st.code < 32 := st.code_lt
  have laid : completionBits tag kind st r
      = placeAll ((0, 16, tag.toNat) :: (16, 8, kind.toNat) :: (24, 8, st.code) :: byteFields fields) := by
    simp only [completionBits, results, placeBytes, placeAll, place, Nat.mod_eq_of_lt (show st.code < 2 ^ 5 by omega),
      Nat.mod_eq_of_lt (show st.code < 2 ^ 8 by omega), Nat.add_assoc, Nat.reduceMul]
  have all : Ascending 0 ((0, 16, tag.toNat) :: (16, 8, kind.toNat) :: (24, 8, st.code) :: byteFields fields) :=
    ⟨by omega, by omega, by omega, ascending⟩
  have byte : ∀ n, 256 ^ n = 2 ^ (8 * n) := fun n => by rw [Nat.pow_mul]
  have inBits : ∀ f ∈ fields, (8 * f.1, 8 * f.2.1, f.2.2) ∈ byteFields fields := fun f inFields => List.mem_map_of_mem inFields
  simp only [byte]
  rw [laid]
  refine ⟨placeAll_lt all ?_, ?_, ?_, ?_, fun f inFields => ?_, fun j from4 apart => ?_⟩
  · simp only [List.forall_mem_cons, byteFields, List.forall_mem_map]
    exact ⟨by omega, by omega, by omega, fun f inFields => by have := ends f inFields; omega⟩
  · exact (placeAll_read all (.head _)).trans (Nat.mod_eq_of_lt tag.isLt)
  · exact (placeAll_read all (.tail _ (.head _))).trans (Nat.mod_eq_of_lt kind.isLt)
  · exact (placeAll_read all (.tail _ (.tail _ (.head _)))).trans (Nat.mod_eq_of_lt (by omega))
  · exact placeAll_read all (.tail _ (.tail _ (.tail _ (inBits f inFields))))
  · refine placeAll_gap all ?_
    simp only [List.forall_mem_cons, byteFields, List.forall_mem_map]
    exact ⟨by omega, by omega, by omega, fun f inFields => by have := apart f inFields; omega⟩

/-! ### A whole image (R17) -/

theorem FlowTable.image_eq_wholeImage (t : FlowTable) (h : Nat) : t.image h = (t.slot h).wholeImage h := by
  unfold FlowTable.image Slot.wholeImage DirEntry.reasonGiven Body.timerGiven
  cases reason : (t.slot h).dir.closeReason <;> cases deadline : (t.slot h).body.deadline <;>
    cases holdEnd : (t.slot h).body.holdEnd <;>
    simp only [FlowTable.dir, FlowTable.body, reason, deadline, holdEnd] <;> rfl

/-- Settles O29: the fields of each layout ascend. -/
theorem completionRecordReadsBack : Obligations.CompletionRecordReadsBack := by
  unfold Obligations.CompletionRecordReadsBack
  refine ⟨fun tag kind st r => ?_, FlowTable.image_eq_wholeImage, fun tag kind st => ?_⟩
  · have read : ∀ {off width v : Nat}, (off, width, v) ∈ recordLayout tag kind st r → v < 2 ^ width →
        completionBits tag kind st (.record r) / 2 ^ off % 2 ^ width = v := fun inLayout fits => by
      rw [completionBits_record, placeAll_read (recordLayout_ascending ..) inLayout, Nat.mod_eq_of_lt fits]
    have readMod : ∀ {off width v : Nat}, (off, width, v) ∈ recordLayout tag kind st r →
        completionBits tag kind st (.record r) / 2 ^ off % 2 ^ width = v % 2 ^ width := fun inLayout => by
      rw [completionBits_record, placeAll_read (recordLayout_ascending ..) inLayout]
    refine ⟨?_, read (by simp [recordLayout]) tag.isLt, read (by simp [recordLayout]) kind.isLt,
      read (by simp [recordLayout]) st.code_lt, read (by simp [recordLayout]) (flagCode_lt _), read (by simp [recordLayout]) (flagCode_lt _),
      read (by simp [recordLayout]) (flagCode_lt _), readMod (by simp [recordLayout]), read (by simp [recordLayout]) r.timer.kind_lt,
      read (by simp [recordLayout]) r.generation.isLt, read (by simp [recordLayout]) r.state.code_lt, readMod (by simp [recordLayout]),
      readMod (by simp [recordLayout]), readMod (by simp [recordLayout]), read (by simp [recordLayout]) r.cls.isLt,
      readMod (by simp [recordLayout]), readMod (by simp [recordLayout]), read (by simp [recordLayout]) r.key.isLt,
      readMod (by simp [recordLayout]), readMod (by simp [recordLayout]), readMod (by simp [recordLayout]),
      readMod (by simp [recordLayout]), readMod (by simp [recordLayout]), readMod (by simp [recordLayout])⟩
    rw [completionBits_record]
    exact placeAll_lt (recordLayout_ascending ..) (by simp [recordLayout])
  · refine ⟨?_, fun seed => ?_, fun n e count => ?_, fun count => ?_, fun n quota count => ?_, fun n p => ?_,
      fun channel action state fault unanswered => ?_, fun divider enable timeBase => ?_, fun timeBase => ?_,
      fun x cursor visited matched acted => ?_⟩
    all_goals
      refine completion_laid tag kind st ?_ ?_ ?_
      · simp only [Results.bits, byteFields, placeBytes, List.map_cons, List.map_nil, placeAll, Nat.add_assoc, Nat.add_zero]
      · simp [byteFields, Ascending]
      · simp

end Sys2Proof.Machine
end

section
/-! PROOF. Taking commands: the argument checks, the take of a table command, a refused command, what takes nothing, and the
commands on domains, profiles and the timer that complete at once (R145 to R150). -/

namespace Sys2Proof.Machine

variable {s : State}

/-! ### The take (R145, R146) -/

theorem State.taken_eq_afterTake (s : State) (e : Option Execution) : { s.taken with inExec := e } = s.afterTake e := rfl

/-- A row whose command passes its checks acts on the taken state. -/
theorem State.take_passed {isRow check : Descriptor → Bool} {refused : Descriptor → State → Results}
    {act : Descriptor → State → State} (can : CanTakeNow s) (row : isRow s.nextDescriptor = true)
    (passed : check s.nextDescriptor = true) :
    s.take isRow (checked check refused act) = act s.nextDescriptor s.taken := by
  rw [State.take_eq can row, checked, if_pos passed]

/-- A row whose command is refused posts BAD_ARGUMENT and nothing else. -/
theorem State.take_refused {isRow check : Descriptor → Bool} {refused : Descriptor → State → Results}
    {act : Descriptor → State → State} (can : CanTakeNow s) (row : isRow s.nextDescriptor = true)
    (failed : check s.nextDescriptor = false) :
    s.take isRow (checked check refused act) = s.takenAndPosted .badArgument (refused s.nextDescriptor s.taken) := by
  rw [State.take_eq can row, checked, if_neg (by rw [failed]; decide)]
  rfl

/-- A row takes nothing without the five conditions, or when the descriptor is not its own. -/
theorem State.take_skipped {isRow : Descriptor → Bool} {act : Descriptor → State → State}
    (skipped : ¬ CanTakeNow s ∨ isRow s.nextDescriptor = false) : s.take isRow act = s := by
  rcases s.take_cases isRow act with kept | ⟨can, row, -⟩
  · exact kept
  · rcases skipped with cannot | other
    · exact absurd can cannot
    · rw [other] at row; cases row

theorem ofKind_true {k : Byte} {d : Descriptor} (kind : kindOf d = k) : ofKind k d = true := by
  rw [ofKind, decide_eq_true kind]

theorem ofAction_kind {a : Nat} {d : Descriptor} (mine : ofAction a d = true) : kindOf d = 6#8 := by
  simp only [ofAction, Bool.and_eq_true, decide_eq_true_eq] at mine
  exact mine.1

/-! ### The rows of the commands -/

/-- The row of a table command: its checks are those of its kind, and only CONFIRM and SET_DOMAIN carry results when refused. -/
theorem exec_tableCommand {i : Instr} {k : Byte} (row : (i, k) ∈ tableCommands) :
    ∃ check refused, (∀ s, exec i s = .next (s.takeForTable k check refused))
      ∧ (∀ d, kindOf d = k → checkFor d = check d) ∧ (k ≠ 2#8 → k ≠ 11#8 → refused = noResults) := by
  simp only [tableCommands, List.mem_cons, List.not_mem_nil, or_false, Prod.mk.injEq] at row
  rcases row with ⟨rfl, rfl⟩ | ⟨rfl, rfl⟩ | ⟨rfl, rfl⟩ | ⟨rfl, rfl⟩ | ⟨rfl, rfl⟩ | ⟨rfl, rfl⟩ | ⟨rfl, rfl⟩ | ⟨rfl, rfl⟩ |
    ⟨rfl, rfl⟩ | ⟨rfl, rfl⟩ | ⟨rfl, rfl⟩ | ⟨rfl, rfl⟩ | ⟨rfl, rfl⟩
  all_goals refine ⟨_, _, fun s => rfl, fun d kind => by rw [checkFor, kind]; rfl, ?_⟩
  case inr.inl => exact fun notDomain => absurd rfl notDomain
  case inr.inr.inr.inr.inl => exact fun _ notConfirm => absurd rfl notConfirm
  all_goals exact fun _ _ => rfl

/-- The row of an action command. -/
theorem exec_actionCommand {i : Instr} {k : Byte} (row : (i, k) ∈ actionCommands) :
    ∃ isRow act, (∀ s, exec i s = .next (s.take isRow act)) ∧ ∀ d, isRow d = true → kindOf d = k := by
  simp only [actionCommands, List.mem_cons, List.not_mem_nil, or_false, Prod.mk.injEq] at row
  rcases row with ⟨rfl, rfl⟩ | ⟨rfl, rfl⟩ | ⟨rfl, rfl⟩ | ⟨rfl, rfl⟩ | ⟨rfl, rfl⟩ | ⟨rfl, rfl⟩ | ⟨rfl, rfl⟩ | ⟨rfl, rfl⟩ |
    ⟨rfl, rfl⟩ | ⟨rfl, rfl⟩ | ⟨rfl, rfl⟩ | ⟨rfl, rfl⟩
  case inr.inr.inr.inl | inr.inr.inr.inr.inl | inr.inr.inr.inr.inr.inl =>
    exact ⟨_, _, fun s => rfl, fun d mine => ofAction_kind mine⟩
  all_goals exact ⟨_, _, fun s => rfl, fun d mine => of_decide_eq_true mine⟩

theorem exec_unknownCommand (s : State) :
    exec .unknownCommand s = .next (s.take unknownKind (fun d s => s.complete d .unknownCommand .none)) := rfl

/-- Settles O30: the row of a table command, when its checks pass. -/
theorem tableCommandIsTakenAndPresented : Obligations.TableCommandIsTakenAndPresented := by
  unfold Obligations.TableCommandIsTakenAndPresented
  intro s i k row can kind passed
  obtain ⟨check, refused, run, checks, -⟩ := exec_tableCommand row
  rw [run, State.takeForTable, State.take_passed can (ofKind_true kind) (by rw [← checks _ kind, passed])]
  rfl

/-- Settles O32: no row takes without the five conditions, and each takes its own kind. -/
theorem nothingIsTakenUnlessAllConditionsHold : Obligations.NothingIsTakenUnlessAllConditionsHold := by
  unfold Obligations.NothingIsTakenUnlessAllConditionsHold
  intro s i k row
  have skips : ∃ isRow act, exec i s = .next (s.take isRow act)
      ∧ (i ≠ .unknownCommand → ∀ d, isRow d = true → kindOf d = k) ∧ (i = .unknownCommand → isRow = unknownKind) := by
    rcases row with row | ⟨rfl, rfl⟩
    · rcases List.mem_append.1 row with row | row
      · obtain ⟨check, refused, run, -⟩ := exec_tableCommand row
        refine ⟨_, _, run s, fun _ d mine => of_decide_eq_true mine, ?_⟩
        rintro rfl
        simp [tableCommands] at row
      · obtain ⟨isRow, act, run, own⟩ := exec_actionCommand row
        refine ⟨isRow, act, run s, fun _ => own, ?_⟩
        rintro rfl
        simp [actionCommands] at row
    · exact ⟨_, _, exec_unknownCommand s, fun other => absurd rfl other, fun _ => rfl⟩
  obtain ⟨isRow, act, run, own, unknown⟩ := skips
  rw [run]
  refine ⟨fun cannot => by rw [State.take_skipped (.inl cannot)], fun named other => ?_, fun isUnknown low high => ?_⟩
  · rw [State.take_skipped (.inr (Bool.eq_false_iff.2 fun mine => other (own named _ mine)))]
  · rw [State.take_skipped (.inr _)]
    rw [unknown isUnknown, unknownKind]
    simp only [Bool.or_eq_false_iff, decide_eq_false_iff_not]
    omega

/-! ### The argument checks (R146, R181) -/

/-- No bit from a position on is set exactly when the number is below that power. -/
theorem Nat.lt_two_pow_iff_testBit (x n : Nat) : x < 2 ^ n ↔ ∀ i, n ≤ i → x.testBit i = false :=
  ⟨fun less _ le => Nat.testBit_lt_two_pow (less.trans_le (Nat.pow_le_pow_right (by omega) le)), Nat.lt_pow_two_of_testBit x⟩

theorem checkReference_iff (d : Descriptor) : checkReference d = true ↔ fieldAt d 4 2 ≤ 8255 := decide_eq_true_iff

theorem checkSettings_iff (d : Descriptor) : checkSettings d = true ↔
    fieldAt d 8 2 ≤ 255 ∧ fieldAt d 10 1 ≤ 63 ∧ fieldAt d 12 4 ≤ 65535 ∧ fieldAt d 11 1 ≤ 1 := by
  simp only [checkSettings, Bool.and_eq_true, decide_eq_true_eq, and_assoc]
  rfl

theorem checkSetDomain_iff (d : Descriptor) : checkSetDomain d = true ↔ fieldAt d 4 1 ≤ 15
    ∧ ((fieldAt d 8 2).testBit 2 = true → fieldAt d 5 1 ≤ 2) ∧ ((fieldAt d 8 2).testBit 4 = true → fieldAt d 7 1 ≤ 63)
    ∧ ((fieldAt d 8 2).testBit 6 = true → fieldAt d 12 2 ≠ 0) ∧ ((fieldAt d 8 2).testBit 8 = true → fieldAt d 14 2 ≤ 8256)
    ∧ ((fieldAt d 8 2).testBit 0 = true → fieldAt d 16 1 ≤ 1) ∧ ((fieldAt d 8 2).testBit 7 = true → fieldAt d 17 1 ≤ 1)
    ∧ ∀ i, 9 ≤ i → (fieldAt d 8 2).testBit i = false := by
  have bound := Nat.lt_two_pow_iff_testBit (fieldAt d 8 2) 9
  norm_num at bound
  rw [← bound]
  simp only [checkSetDomain, domainSelects, Bool.and_eq_true, Bool.or_eq_true, Bool.not_eq_true', decide_eq_true_eq, and_assoc,
    Bool.eq_false_iff, ne_eq, ← imp_iff_not_or]

theorem checkModify_iff (d : Descriptor) : checkModify d = true ↔ fieldAt d 4 2 ≤ 8255
    ∧ ((fieldAt d 16 1).testBit 0 = true → fieldAt d 8 2 ≤ 255) ∧ ((fieldAt d 16 1).testBit 1 = true → fieldAt d 10 1 ≤ 63)
    ∧ ((fieldAt d 16 1).testBit 2 = true → fieldAt d 12 4 ≤ 65535) ∧ ((fieldAt d 16 1).testBit 3 = true → fieldAt d 11 1 ≤ 1)
    ∧ ∀ i, 4 ≤ i → (fieldAt d 16 1).testBit i = false := by
  have bound := Nat.lt_two_pow_iff_testBit (fieldAt d 16 1) 4
  norm_num at bound
  rw [← bound]
  simp only [checkModify, modifySelects, Bool.and_eq_true, Bool.or_eq_true, Bool.not_eq_true', decide_eq_true_eq,
    checkReference_iff, Bool.eq_false_iff, ne_eq, ← imp_iff_not_or]
  rw [leaseArg]
  tauto

/-- SWEEP is refused by the first of its fields out of range (R168). -/
theorem checkSweep_false {d : Descriptor} (out : (15 < fieldAt d 4 1 ∧ fieldAt d 4 1 ≠ 255) ∨ 8 ≤ fieldAt d 5 1 ∨ 4 < fieldAt d 6 1
    ∨ 255 < fieldAt d 8 2 ∨ 255 < fieldAt d 10 2 ∨ (fieldAt d 6 1 = 2 ∧ 255 < fieldAt d 12 2)
    ∨ (fieldAt d 6 1 = 3 ∧ 63 < fieldAt d 7 1)) : checkSweep d = false := by
  rw [Bool.eq_false_iff]
  intro passed
  simp only [checkSweep, Bool.and_eq_true, Bool.or_eq_true, decide_eq_true_eq] at passed
  omega

/-- The result fields of a refused CHANNEL_CONTROL (R72). -/
theorem controlResults_eq (d : Descriptor) (s : State) : controlResults d s =
    if h : fieldAt d 4 1 < 4 then .channel (fieldAt d 4 1) (fieldAt d 5 1) (s.chan ⟨fieldAt d 4 1, h⟩).state.code
      (s.chan ⟨fieldAt d 4 1, h⟩).faultReason.code (s.chan ⟨fieldAt d 4 1, h⟩).unanswered
    else .channel (fieldAt d 4 1) (fieldAt d 5 1) 0 0 0 := by
  by_cases named : fieldAt d 4 1 < 4
  · rw [dif_pos named, controlResults, if_pos (by omega), channelArg_eq (c := ⟨fieldAt d 4 1, named⟩) rfl]
    rfl
  · rw [dif_neg named, controlResults, if_neg (by omega)]

/-- A refused CHANNEL_CONTROL (R72). -/
theorem State.takeControl_refused {a : Nat} {act : Descriptor → State → State} (can : CanTakeNow s) (kind : kindOf s.nextDescriptor = 6#8)
    (action : fieldAt s.nextDescriptor 5 1 = a ∨ fieldAt s.nextDescriptor 5 1 = 0 ∨ 3 < fieldAt s.nextDescriptor 5 1)
    (failed : checkChannelControl s.nextDescriptor = false) :
    s.takeControl a act = s.takenAndPosted .badArgument (controlResults s.nextDescriptor s.taken) := by
  refine State.take_refused can ?_ failed
  simp only [ofAction, kind, decide_true, Bool.true_and, Bool.or_eq_true, decide_eq_true_eq, Bool.not_eq_true', Bool.and_eq_false_iff,
    decide_eq_false_iff_not]
  omega

/-- Settles O31: the checks are those of the kind; a refused command posts its completion on the taken state. -/
theorem refusedCommandsChangeNothingElse : Obligations.RefusedCommandsChangeNothingElse := by
  unfold Obligations.RefusedCommandsChangeNothingElse
  refine ⟨fun d => ?_, fun s can => ?_, fun s can unknown => ?_⟩
  · refine ⟨fun kind => ?_, fun kind => ?_, fun kind => ?_, fun kind => ?_, fun kind => ?_, fun kind => ?_, fun kind => ?_,
      fun kind => ?_⟩
    · simp [checkFor, kind, checkSetSeed]
    · rw [← checkSetDomain_iff]; simp [checkFor, kind]
    · simp [checkFor, kind, checkHold, checkReference_iff]
    · rw [← checkSettings_iff]; simp [checkFor, kind, checkConfirm, checkReference_iff]
    · rcases kind with kind | kind | kind | kind <;> simp [checkFor, kind, checkReference_iff]
    · rw [← checkSettings_iff]; simp [checkFor, kind, checkInsert, checkDomain]
    · simp [checkFor, kind, checkDomain]
    · rw [← checkModify_iff]; simp [checkFor, kind]
  · refine ⟨fun i row notDomain notConfirm failed => ?_, fun kind failed => ?_, fun n kind domain failed => ?_, fun kind out => ?_,
      fun kind out => ?_, fun kind out => ?_, fun kind out => ?_, fun kind out => ?_, fun kind out => ?_, fun kind out => ?_,
      fun kind out named i action => ?_, fun kind out i row => ?_⟩
    · obtain ⟨check, refused, run, checks, plain⟩ := exec_tableCommand row
      rw [run, State.takeForTable, State.take_refused can (ofKind_true rfl) (by rw [← checks _ rfl, failed]),
        plain notDomain notConfirm]
      rfl
    · obtain ⟨h, inField, given, results⟩ := confirmRefused_cases s.nextDescriptor s.taken
      refine ⟨h, inField, given, ?_⟩
      have failed : checkConfirm s.nextDescriptor = false := by simpa [checkFor, kind] using failed
      exact (congrArg _ (State.take_refused can (ofKind_true kind) failed)).trans (by rw [results]; rfl)
    · have failed : checkSetDomain s.nextDescriptor = false := by simpa [checkFor, kind] using failed
      refine (congrArg _ (State.take_refused can (ofKind_true kind) failed)).trans ?_
      rw [setDomainRefused, if_pos (by omega), domainOf_eq domain]
      rfl
    · have failed : checkSetDomain s.nextDescriptor = false := by simp [checkSetDomain]; omega
      refine (congrArg _ (State.take_refused can (ofKind_true kind) failed)).trans ?_
      rw [setDomainRefused, if_neg (by omega)]
    · exact congrArg _ (State.take_refused can (ofKind_true kind) (by simp [checkDomain]; omega))
    · exact congrArg _ (State.take_refused can (ofKind_true kind) (by simp [checkSetProfile]; omega))
    · exact congrArg _ (State.take_refused can (ofKind_true kind) (by simp [checkProfile]; omega))
    · exact congrArg _ (State.take_refused can (ofKind_true kind) (by simp [checkSetTick]; omega))
    · exact congrArg _ (State.take_refused can (ofKind_true kind) (by simp [checkSetTime, Config.timeMax]; omega))
    · exact congrArg _ (State.take_refused can (ofKind_true kind) (checkSweep_false out))
    · have failed : checkChannelControl s.nextDescriptor = false := by simp [checkChannelControl]; omega
      rcases action with ⟨action, rfl⟩ | ⟨action, rfl⟩ | ⟨action, rfl⟩ <;>
        exact (congrArg _ (State.takeControl_refused can kind (.inl action) failed)).trans (by rw [controlResults_eq]; rfl)
    · have failed : checkChannelControl s.nextDescriptor = false := by simp [checkChannelControl]; omega
      simp only [List.mem_cons, List.not_mem_nil, or_false] at row
      rcases row with rfl | rfl | rfl <;>
        exact (congrArg _ (State.takeControl_refused can kind (.inr out) failed)).trans (by rw [controlResults_eq]; rfl)
  · rw [exec_unknownCommand, State.take_eq can (by
      rcases unknown with zero | high
      · simp [unknownKind, zero]
      · simp [unknownKind]; omega)]
    rfl

/-! ### The commands on domains, profiles and the timer (R47, R49, R50, R101, R103) -/

theorem exec_queryDomain (s : State) :
    exec .queryDomain s = .next (s.take (ofKind 3#8) (checked checkDomain noResults queryDomainAct)) := rfl

theorem exec_setProfile (s : State) :
    exec .setProfile s = .next (s.take (ofKind 4#8) (checked checkSetProfile noResults setProfileAct)) := rfl

theorem exec_queryProfile (s : State) :
    exec .queryProfile s = .next (s.take (ofKind 5#8) (checked checkProfile noResults queryProfileAct)) := rfl

/-- Settles O33: each of the three passes its checks and completes. -/
theorem domainAndProfileCommandsComplete : Obligations.DomainAndProfileCommandsComplete := by
  unfold Obligations.DomainAndProfileCommandsComplete
  intro s can
  refine ⟨fun n kind domain => ?_, fun p kind profile other rate burst =>
    ⟨s.profiles.set p.val { rate := fieldAt s.nextDescriptor 8 4, burst := fieldAt s.nextDescriptor 12 4 } p.isLt, ?_, fun q => ?_⟩,
    fun p kind profile other => ?_, fun kind zero => ?_⟩
  · rw [exec_queryDomain, State.take_passed can (ofKind_true kind) (by simp [checkDomain]; omega)]
    simp only [queryDomainAct, domainOf_eq domain]
    rfl
  · have named : fieldAt s.nextDescriptor 4 1 ≠ 0 := fun zero => other (Fin.ext (by rw [← profile, zero]; rfl))
    rw [exec_setProfile, State.take_passed can (ofKind_true kind) (by simp [checkSetProfile]; omega)]
    simp only [setProfileAct, profileOf_eq profile]
    rfl
  · simp only [Fin.getElem_fin, Vector.getElem_set, Fin.ext_iff, eq_comm]
  · rw [exec_queryProfile, State.take_passed can (ofKind_true kind) (by simp [checkProfile]; omega)]
    simp only [queryProfileAct, profileOf_eq profile, if_neg other]
    rfl
  · rw [exec_queryProfile, State.take_passed can (ofKind_true kind) (by simp [checkProfile]; omega)]
    simp only [queryProfileAct, profileOf_eq (p := 0) zero, if_true]
    rfl

theorem exec_setTick (s : State) : exec .setTick s = .next (s.take (ofKind 7#8) (checked checkSetTick noResults setTickAct)) := rfl

theorem exec_setTime (s : State) : exec .setTime s = .next (s.take (ofKind 8#8) (checked checkSetTime noResults setTimeAct)) := rfl

/-- Settles O34: SET_TICK and SET_TIME pass their checks and complete with the timer as they leave it. -/
theorem setTickAndSetTimeComplete : Obligations.SetTickAndSetTimeComplete := by
  unfold Obligations.SetTickAndSetTimeComplete
  intro s can
  refine ⟨fun kind low high flag => ?_, fun kind forward inRange => ?_, fun kind backward inRange => ?_⟩
  · rw [exec_setTick, State.take_passed can (ofKind_true kind) (by simp [checkSetTick]; omega), setTickAct]
    rfl
  · rw [exec_setTime, State.take_passed can (ofKind_true kind) (by simp [checkSetTime, Config.timeMax]; omega), setTimeAct,
      State.taken_timer,
      if_neg (Nat.not_lt.2 forward)]
    rfl
  · rw [exec_setTime, State.take_passed can (ofKind_true kind) (by simp [checkSetTime, Config.timeMax]; omega), setTimeAct,
      State.taken_timer, if_pos backward]
    rfl

end Sys2Proof.Machine
end

section
/-! PROOF. CHANNEL_CONTROL in each channel state, and the sweep commands in each sweep state (R72 to R75, R168, R175 to R178). -/

namespace Sys2Proof.Machine

variable {s : State}

/-! ### CHANNEL_CONTROL (R72 to R75) -/

theorem exec_channelControlOpen (s : State) : exec .channelControlOpen s = .next (s.takeControl 1 openChannel) := rfl

theorem exec_channelControlClose (s : State) : exec .channelControlClose s = .next (s.takeControl 2 closeChannel) := rfl

theorem exec_channelControlReset (s : State) : exec .channelControlReset s = .next (s.takeControl 3 resetChannel) := rfl

/-- The completion of a CHANNEL_CONTROL whose channel and action are known (R72). -/
theorem State.completeControl_eq (s : State) {d : Descriptor} {c : Fin 4} {a : Nat} (channel : fieldAt d 4 1 = c.val)
    (action : fieldAt d 5 1 = a) (st : Status) :
    s.completeControl d st = s.complete d st (.channel c.val a (s.chan c).state.code (s.chan c).faultReason.code (s.chan c).unanswered) := by
  rw [State.completeControl, controlResults, if_pos (by omega), channelArg_eq channel, action]
  rfl

/-- Settles O35: OPEN by the channel's state. -/
theorem channelOpenGrantsEightCredits : Obligations.ChannelOpenGrantsEightCredits := by
  unfold Obligations.ChannelOpenGrantsEightCredits
  intro s c can
  dsimp only
  intro kind channel action
  have opens : exec .channelControlOpen s = .next (openChannel s.nextDescriptor s.taken) := by
    rw [exec_channelControlOpen, State.takeControl_eq can kind channel action (by omega) (by omega)]
  refine ⟨fun disabled => ?_, fun other => ?_⟩
  · rw [opens]
    unfold openChannel
    simp only [channelArg_eq channel, State.taken_chan, disabled]
    rw [State.completeControl_eq _ channel action, State.setChan_chan_same]
    rfl
  · have refused : openChannel s.nextDescriptor s.taken = s.taken.completeControl s.nextDescriptor .wrongState := by
      unfold openChannel
      simp only [channelArg_eq channel, State.taken_chan]
      cases state : (s.chan c).state with
      | disabled => exact absurd state other
      | opened | draining | fault => rfl
    rw [opens, refused, State.completeControl_eq _ channel action]
    rfl

/-- Settles O36: CLOSE by the channel's state, and in OPEN by its work. -/
theorem channelCloseDrainsOrDisables : Obligations.ChannelCloseDrainsOrDisables := by
  unfold Obligations.ChannelCloseDrainsOrDisables
  intro s c can
  dsimp only
  intro kind channel action
  have closes : exec .channelControlClose s = .next (closeChannel s.nextDescriptor s.taken) := by
    rw [exec_channelControlClose, State.takeControl_eq can kind channel action (by omega) (by omega)]
  have atTable : s.taken.atTable (.lc c) = s.atTable (.lc c) := rfl
  refine ⟨fun opened work => ?_, fun opened answered free => ?_, fun disabled => ?_, fun other => ?_⟩
  · rw [closes]
    unfold closeChannel
    simp only [channelArg_eq channel, State.taken_chan, opened, atTable]
    rw [if_pos (by simpa using work)]
    rfl
  · rw [closes]
    unfold closeChannel
    simp only [channelArg_eq channel, State.taken_chan, opened, atTable]
    rw [if_neg (by simp [answered, free]), State.completeControl_eq _ channel action,
      State.setChan_chan_same]
    simp only [Channel.send, answered]
    rfl
  · rw [closes]
    unfold closeChannel
    simp only [channelArg_eq channel, State.taken_chan, disabled]
    rw [State.completeControl_eq _ channel action, State.taken_chan, disabled]
    rfl
  · have refused : closeChannel s.nextDescriptor s.taken = s.taken.completeControl s.nextDescriptor .wrongState := by
      unfold closeChannel
      simp only [channelArg_eq channel, State.taken_chan]
      rcases other with state | state <;> simp only [state]
    rw [closes, refused, State.completeControl_eq _ channel action]
    rfl

/-- The port after a CLOSE that may be pending has completed with a status (R74). -/
def State.closePort (s : State) (c : Fin 4) (st : Status) : Port :=
  match (s.chan c).closePending with
  | some tag => (s.post tag 6#8 st (s.channelResults c 2)).port
  | none => s.port

/-- The end of a CLOSE clears what is pending and posts its completion; nothing else changes. -/
theorem State.endClose_eq (s : State) (c : Fin 4) (st : Status) :
    s.endClose c st = ({ s with port := s.closePort c st } : State).setChan c { s.chan c with closePending := none } := by
  unfold State.closePort
  cases pending : (s.chan c).closePending with
  | none =>
    have same : { s.chan c with closePending := none } = s.chan c := by rw [← pending]
    rw [State.endClose_none pending, same]
    exact (State.setChan_self _ c).symm
  | some tag => rw [State.endClose_some pending]; rfl

/-- RESET of a channel, block by block (R75). -/
theorem resetChannel_eq {d : Descriptor} {c : Fin 4} (channel : fieldAt d 4 1 = c.val) (action : fieldAt d 5 1 = 3) (s : State) :
    resetChannel d s = { s.setChan c { s.chan c with
          state := .disabled, queue := [], waitingAnswers := [], unanswered := 0, presented := false,
          faultReason := .none, closePending := none, lane := (s.chan c).lane ++ [.closeNotice .reset] } with
        port := ((({ s with port := s.closePort c .aborted } : State).unlatch (faultBit c)).post (tagOf d) (kindOf d) .ok
          (.channel c.val 3 0 0 0)).port
        opAtTable := (s.abandon (.lc c)).opAtTable
        inExec := none } := by
  unfold resetChannel
  simp only [channelArg_eq channel]
  rw [State.completeControl_eq _ channel action]
  simp only [State.unlatch_chan, State.abandon_chan, State.setChan_chan_same, Channel.send, Channel.discard]
  rw [State.endClose_chan_same, State.endClose_eq, State.setChan_setChan, State.abandon_eq, State.abandon_eq]
  rfl

/-- Settles O37: RESET, the pending CLOSE completed first. -/
theorem channelResetDisablesFromAnyState : Obligations.ChannelResetDisablesFromAnyState := by
  unfold Obligations.ChannelResetDisablesFromAnyState
  intro s c can
  dsimp only
  intro kind channel action
  refine ⟨resetChannel s.nextDescriptor s.taken, ?_, ?_⟩
  · rw [exec_channelControlReset, State.takeControl_eq can kind channel action (by omega) (by omega)]
  rw [resetChannel_eq channel action]
  refine ⟨State.setChan_chan_same .., fun c' other => (State.setChan_chan ..).trans (if_neg other), ?_, fun op atTable => ?_,
    fun free => ?_, fun none_ => ?_, fun tag pending => ?_, rfl, rfl, rfl, rfl, rfl, rfl, rfl, rfl, rfl, rfl⟩
  · show (s.taken.closePort c .aborted).latched &&& _ = _
    unfold State.closePort
    cases pending : (s.taken.chan c).closePending with
    | none => rfl
    | some tag => rfl
  · rw [State.abandon_eq]
    show Option.map _ s.opAtTable = _
    rw [atTable]
    rfl
  · rw [State.abandon_eq]
    show Option.map _ s.opAtTable = _
    rw [free]
    rfl
  · have port : s.taken.closePort c .aborted = s.taken.port := by rw [State.closePort, State.taken_chan, none_]
    rw [port]
    rfl
  · have port : s.taken.closePort c .aborted = (s.taken.post tag 6#8 .aborted
        (.channel c.val 2 (s.chan c).state.code (s.chan c).faultReason.code (s.chan c).unanswered)).port := by
      rw [State.closePort, State.taken_chan, pending]
      rfl
    rw [port]
    rfl

/-! ### SWEEP (R168) -/

theorem exec_sweep (s : State) :
    exec .sweep s = .next (s.take (ofKind 20#8) (checked checkSweep (fun _ s => s.sweepResults) sweepAccept)) := rfl

theorem exec_sweepSuspend (s : State) : exec .sweepSuspend s = .next (s.take (ofKind 21#8) sweepSuspendAct) := rfl

theorem exec_sweepResume (s : State) : exec .sweepResume s = .next (s.take (ofKind 22#8) sweepResumeAct) := rfl

theorem exec_sweepAbort (s : State) : exec .sweepAbort s = .next (s.take (ofKind 23#8) sweepAbortAct) := rfl

theorem State.presentPosition_eq (s : State) :
    s.presentPosition = { s with sweep := { s.sweep with presented := s.sweep.presented || !s.atTable .su } } := by
  unfold State.presentPosition
  cases atTable : s.atTable .su with
  | true => rw [if_pos rfl, Bool.not_true, Bool.or_false]
  | false => rw [if_neg (by decide), Bool.not_false, Bool.or_true]

/-- The completion of a sweep command whose state is known (R167). -/
theorem State.completeSweep_eq {x : SweepState} (state : s.sweep.state = x) (d : Descriptor) (st : Status) :
    s.completeSweep d st = s.complete d st (.sweep x s.sweep.cursor s.sweep.visited s.sweep.matched s.sweep.acted) := by
  rw [State.completeSweep, State.sweepResults, state]

theorem sweepAct_of_busy {d : Descriptor} (busy : s.sweep.state ≠ .idle) : sweepAccept d s = s.completeSweep d .busy := by
  unfold sweepAccept
  cases state : s.sweep.state with
  | idle => exact absurd state busy
  | running | suspending | suspended | aborting => rfl

/-- The parameters that a SWEEP stores, field by field (R168, R181). -/
theorem sweepParams_eq (d : Descriptor) : (fieldAt d 4 1 = 255 → (sweepParams d).selector = none)
    ∧ (∀ n : Fin 16, fieldAt d 4 1 = n.val → (sweepParams d).selector = some n)
    ∧ (fieldAt d 8 2 ≤ 255 → (sweepParams d).classValue.toNat = fieldAt d 8 2)
    ∧ (fieldAt d 10 2 ≤ 255 → (sweepParams d).classMask.toNat = fieldAt d 10 2) := by
  refine ⟨fun all => if_pos all, fun n named => ?_, fun inByte => ?_, fun inByte => ?_⟩
  · have notAll : fieldAt d 4 1 ≠ 255 := by omega
    exact (if_neg notAll).trans (congrArg some (domainOf_eq named))
  · exact (BitVec.toNat_ofNat ..).trans (Nat.mod_eq_of_lt (by omega))
  · exact (BitVec.toNat_ofNat ..).trans (Nat.mod_eq_of_lt (by omega))

/-- The action that a SWEEP stores, by its code (R168, R181). -/
theorem sweepParams_action (d : Descriptor) : (fieldAt d 6 1 = 0 → (sweepParams d).action = .count)
    ∧ (fieldAt d 6 1 = 1 → (sweepParams d).action = .retire)
    ∧ (∀ c : Byte, fieldAt d 6 1 = 2 → fieldAt d 12 2 = c.toNat → (sweepParams d).action = .reclass c)
    ∧ (∀ p : Fin 64, fieldAt d 6 1 = 3 → fieldAt d 7 1 = p.val → (sweepParams d).action = .reprofile p)
    ∧ (fieldAt d 6 1 = 4 → (sweepParams d).action = .release) := by
  unfold sweepParams
  refine ⟨fun code => ?_, fun code => ?_, fun c code cls => ?_, fun p code profile => ?_, fun code => ?_⟩
  · simp only [code]
  · simp only [code]
  · simp only [code, cls, BitVec.ofNat_toNat, BitVec.setWidth_eq]
  · simp only [code, profile, Fin.ofNat_val_eq_self]
  · simp only [code]

/-- Settles O38: SWEEP by the sweep state. -/
theorem sweepStartsAWalk : Obligations.SweepStartsAWalk := by
  unfold Obligations.SweepStartsAWalk
  intro s can
  dsimp only
  intro kind selector states action value mask cls profile
  have passed : checkSweep s.nextDescriptor = true := by
    simp only [checkSweep, Bool.and_eq_true, Bool.or_eq_true, decide_eq_true_eq]
    refine ⟨⟨⟨⟨⟨⟨selector, states⟩, action⟩, value⟩, mask⟩, ?_⟩, ?_⟩ <;> tauto
  have accepts : exec .sweep s = .next (sweepAccept s.nextDescriptor s.taken) := by
    rw [exec_sweep, State.take_passed can (ofKind_true kind) passed]
  obtain ⟨all, named, byValue, byMask⟩ := sweepParams_eq s.nextDescriptor
  obtain ⟨count, retire, reclass, reprofile, release⟩ := sweepParams_action s.nextDescriptor
  refine ⟨fun idle => ?_, fun busy => ?_⟩
  · refine ⟨{ s.afterTake none with sweep := { s.sweep with
        state := .running, cursor := 0, visited := 0, matched := 0, acted := 0, params := sweepParams s.nextDescriptor,
        pendingSweep := some (tagOf s.nextDescriptor), presented := s.sweep.presented || !s.atTable .su } }, ?_, rfl, rfl, rfl, rfl,
      rfl, rfl, rfl, rfl, rfl, all, named, byValue value, byMask mask, rfl, rfl, rfl, count, retire, reclass, reprofile, release⟩
    rw [accepts]
    unfold sweepAccept
    simp only [State.taken_sweep, idle]
    rw [State.presentPosition_eq]
    rfl
  · rw [accepts, sweepAct_of_busy (by rcases busy with e | e | e <;> rw [State.taken_sweep, e] <;> decide)]
    rfl

/-! ### SWEEP_SUSPEND, SWEEP_RESUME and SWEEP_ABORT (R175 to R177) -/

/-- Settles O39: each command by the sweep state. -/
theorem sweepSuspendResumeAndAbort : Obligations.SweepSuspendResumeAndAbort := by
  unfold Obligations.SweepSuspendResumeAndAbort
  refine ⟨fun s can kind => ?_, fun s can kind => ?_, fun s can kind => ?_⟩
  · rw [exec_sweepSuspend, State.take_eq can (ofKind_true kind)]
    refine ⟨fun state => ?_, fun state => ?_, fun state => ?_, fun state => ?_⟩
    all_goals
      unfold sweepSuspendAct
      simp only [State.taken_sweep, state]
    · rfl
    all_goals
      rw [State.completeSweep_eq (s := s.taken) state]
      rfl
  · rw [exec_sweepResume, State.take_eq can (ofKind_true kind)]
    refine ⟨fun state free => ?_, fun state => ?_, fun state => ?_⟩
    · unfold sweepResumeAct
      simp only [State.taken_sweep, state]
      have free' : (s.taken.setSweepState .running).atTable .su = false := free
      rw [State.presentPosition, if_neg (by rw [free']; decide), State.completeSweep_eq (x := .running) rfl]
      rfl
    · unfold sweepResumeAct
      simp only [State.taken_sweep, state]
      rw [State.completeSweep_eq (s := s.taken) state]
      rfl
    · unfold sweepResumeAct
      rcases state with state | state <;>
        (simp only [State.taken_sweep, state]; rw [State.completeSweep_eq (s := s.taken) state]; rfl)
  · rw [exec_sweepAbort, State.take_eq can (ofKind_true kind)]
    refine ⟨fun state => ?_, fun tag state pending => ?_, fun state => ?_⟩
    · unfold sweepAbortAct
      rcases state with state | state <;> (simp only [State.taken_sweep, state]; rfl)
    · unfold sweepAbortAct
      simp only [State.taken_sweep, state]
      rw [State.endSweep_some (s := s.taken.setSweepState .idle) (tag := tag) pending, State.completeSweep_eq (x := .idle) rfl]
      rfl
    · unfold sweepAbortAct
      simp only [State.taken_sweep, state]
      rw [State.completeSweep_eq (s := s.taken) state]
      rfl

end Sys2Proof.Machine
end

section
/-! PROOF. Frames and arrivals: a request frame read back, the layout of what the part sends, a request's arrival in each channel
state, and the entry to FAULT (R55 to R71, R183). -/

namespace Sys2Proof.Machine

variable {s : State}

/-! ### Fields of a frame (R179, R183) -/

theorem natBE_append (a b : List Byte) : natBE (a ++ b) = natBE a * 256 ^ b.length + natBE b := by
  have fold : ∀ (bs : List Byte) (acc : Nat), bs.foldl (fun acc b => acc * 256 + b.toNat) acc = acc * 256 ^ bs.length + natBE bs := by
    intro bs
    induction bs with
    | nil => intro acc; simp [natBE]
    | cons x bs ih =>
      intro acc
      rw [natBE, List.foldl_cons, List.foldl_cons, ih, ih (0 * 256 + x.toNat), List.length_cons, Nat.pow_succ]
      ring
  rw [natBE, List.foldl_append, fold b]
  rfl

theorem natBE_single (b : Byte) : natBE [b] = b.toNat := by simp [natBE]

theorem bytesBE_length (n : Nat) : ∀ v, (bytesBE n v).length = n := by
  induction n with
  | zero => intro v; rfl
  | succ n ih => intro v; rw [bytesBE, List.length_cons, ih]

/-- The bytes of a field spell it again, most significant byte first (R179). -/
theorem natBE_bytesBE (n : Nat) : ∀ v, natBE (bytesBE n v) = v % 256 ^ n := by
  induction n with
  | zero => intro v; simp [bytesBE, natBE, Nat.mod_one]
  | succ n ih =>
    intro v
    rw [bytesBE, ← List.singleton_append, natBE_append, natBE_single, ih, bytesBE_length, BitVec.toNat_ofNat, pow_succ 256 n,
      Nat.mod_mul, Nat.mul_comm, Nat.add_comm]

theorem natBE_bytesBE_toNat {n : Nat} (w : BitVec (8 * n)) : natBE (bytesBE n w.toNat) = w.toNat := by
  rw [natBE_bytesBE, Nat.mod_eq_of_lt]
  have := w.isLt
  rwa [Nat.pow_mul] at this

theorem withCheck_length (bs : List Byte) : (withCheck bs).length = bs.length + 2 := by
  rw [withCheck, List.length_append, bytesBE_length]

/-- A field before the check. -/
theorem frameField_withCheck {bs : List Byte} {off size : Nat} (inside : off + size ≤ bs.length) :
    frameField (withCheck bs) off size = frameField bs off size := by
  rw [frameField, withCheck, List.drop_append_of_le_length (by omega), List.take_append_of_le_length (by rw [List.length_drop]; omega)]
  rfl

/-- The check stands over what stands before it (R56). -/
theorem withCheck_check (bs : List Byte) :
    natBE (((withCheck bs).drop ((withCheck bs).length - 2)).take 2) = (crc ((withCheck bs).take ((withCheck bs).length - 2))).toNat := by
  have here : (withCheck bs).length - 2 = bs.length := by rw [withCheck_length]; omega
  rw [here, withCheck, List.drop_left, List.take_left, List.take_of_length_le (by rw [bytesBE_length]), natBE_bytesBE_toNat (n := 2)]

/-- The first two tests of a frame with a check pass (R57). -/
theorem withCheck_checked {bs : List Byte} (long : 2 ≤ bs.length) : FrameChecked (withCheck bs) where
  long := by rw [withCheck_length]; omega
  check := by
    rw [← withCheck_check, List.take_of_length_le]
    rw [List.length_drop, withCheck_length]
    omega

/-! ### Request frames (R57, R183) -/

/-- The bytes of a request before its check, counted (R57, R183). -/
def requestBytesCount : RequestBody → Nat
  | .lookup _ _ _ _ => 22
  | .peek _ _ => 19
  | .hold _ _ _ => 7

theorem requestBytes_length (tag : Byte) (r : RequestBody) : (requestBytes tag r).length = requestBytesCount r := by
  cases r <;> simp [requestBytes, requestBytesCount, bytesBE_length]

theorem encodeRequest_length (tag : Byte) (r : RequestBody) : (encodeRequest tag r).length = requestBytesCount r + 2 := by
  rw [← requestBytes_length tag]
  exact withCheck_length _

/-- A field of a request frame is that of the bytes before the check. -/
theorem frameField_encodeRequest (tag : Byte) (r : RequestBody) (off size : Nat) (inside : off + size ≤ requestBytesCount r) :
    frameField (encodeRequest tag r) off size = frameField (requestBytes tag r) off size :=
  frameField_withCheck (by rwa [requestBytes_length])

theorem ofNat_natBE_single (b : Byte) : BitVec.ofNat 8 (natBE [b]) = b := by
  rw [natBE_single, BitVec.ofNat_toNat, BitVec.setWidth_eq]

theorem ofNat_natBE_bytesBE {n : Nat} (w : BitVec (8 * n)) : BitVec.ofNat (8 * n) (natBE (bytesBE n w.toNat)) = w := by
  rw [natBE_bytesBE_toNat, BitVec.ofNat_toNat, BitVec.setWidth_eq]

/-- A frame that carries a request is read back as that request (R57, R183). -/
theorem classifyFrame_encodeRequest (tag : Byte) (r : RequestBody) : classifyFrame (encodeRequest tag r) = .ok (tag, r) := by
  have some_ : 2 ≤ (requestBytes tag r).length := by rw [requestBytes_length]; cases r <;> simp [requestBytesCount]
  obtain ⟨long, check⟩ := FrameChecked.passes (f := encodeRequest tag r) (withCheck_checked some_)
  unfold classifyFrame
  rw [if_neg long, if_neg check, encodeRequest_length]
  have field := frameField_encodeRequest tag r
  cases r with
  | lookup domain learnFlag length key =>
    have kind' : frameField (encodeRequest tag (.lookup domain learnFlag length key)) 0 1 = 1 := field 0 1 (by simp [requestBytesCount])
    have tag' := (field 1 1 (by simp [requestBytesCount])).trans (show _ = natBE [tag] from rfl)
    have domain' := (field 2 1 (by simp [requestBytesCount])).trans (show _ = natBE [domain] from rfl)
    have learnFlag' := (field 3 1 (by simp [requestBytesCount])).trans (show _ = natBE [learnFlag] from rfl)
    have length' := (field 4 2 (by simp [requestBytesCount])).trans (show _ = natBE (bytesBE 2 length.toNat) from rfl)
    have key' := (field 6 16 (by simp [requestBytesCount])).trans (show _ = natBE (bytesBE 16 key.toNat) from rfl)
    simp only [kind', tag', domain', learnFlag', length', key', ofNat_natBE_single, requestBytesCount, if_true]
    rw [ofNat_natBE_bytesBE (n := 2), ofNat_natBE_bytesBE (n := 16)]
  | peek domain key =>
    have kind' : frameField (encodeRequest tag (.peek domain key)) 0 1 = 2 := field 0 1 (by simp [requestBytesCount])
    have tag' := (field 1 1 (by simp [requestBytesCount])).trans (show _ = natBE [tag] from rfl)
    have domain' := (field 2 1 (by simp [requestBytesCount])).trans (show _ = natBE [domain] from rfl)
    have key' := (field 3 16 (by simp [requestBytesCount])).trans (show _ = natBE (bytesBE 16 key.toNat) from rfl)
    simp only [kind', tag', domain', key', ofNat_natBE_single, requestBytesCount, if_true]
    rw [ofNat_natBE_bytesBE (n := 16)]
    rfl
  | hold handle generation ticks =>
    have kind' : frameField (encodeRequest tag (.hold handle generation ticks)) 0 1 = 3 := field 0 1 (by simp [requestBytesCount])
    have tag' := (field 1 1 (by simp [requestBytesCount])).trans (show _ = natBE [tag] from rfl)
    have handle' := (field 2 2 (by simp [requestBytesCount])).trans (show _ = natBE (bytesBE 2 handle.toNat) from rfl)
    have generation' := (field 4 1 (by simp [requestBytesCount])).trans (show _ = natBE [generation] from rfl)
    have ticks' := (field 5 2 (by simp [requestBytesCount])).trans (show _ = natBE (bytesBE 2 ticks.toNat) from rfl)
    simp only [kind', tag', handle', generation', ticks', ofNat_natBE_single, requestBytesCount, if_true]
    rw [ofNat_natBE_bytesBE (n := 2), ofNat_natBE_bytesBE (n := 2)]
    rfl

/-! ### Outbound frames (R55, R56, R183) -/

/-- The bytes of an outbound frame before its check. -/
def OutFrame.body : OutFrame → List Byte
  | .response tag r => [0x81#8, tag, BitVec.ofNat 8 r.verdict.code, BitVec.ofNat 8 r.reason.code] ++ bytesBE 2 r.handle
      ++ [r.generation, r.cls, BitVec.ofNat 8 r.state.code] ++ bytesBE 2 r.holdRemaining
  | .creditGrant n => [0x82#8, BitVec.ofNat 8 n]
  | .closeNotice reason => [0x83#8, BitVec.ofNat 8 reason.code]

theorem OutFrame.bytes_eq (f : OutFrame) : f.bytes = withCheck f.body := by cases f <;> rfl

/-- Settles O40: the frame is its kind's fields, each read back, and its check. -/
theorem requestFrameRoundTrip : Obligations.RequestFrameRoundTrip := by
  unfold Obligations.RequestFrameRoundTrip
  intro tag r
  refine ⟨classifyFrame_encodeRequest tag r, ?_, fun f => ⟨?_, fun result isResponse => ?_, fun n isGrant => ?_, fun why isNotice => ?_⟩⟩
  · rw [encodeRequest_length]
    cases r <;> rfl
  · rw [f.bytes_eq]
    exact withCheck_check f.body
  · subst isResponse
    have field : ∀ {off size : Nat}, off + size ≤ 11 → frameField (OutFrame.response tag result).bytes off size
        = frameField (OutFrame.response tag result).body off size := fun inside => frameField_withCheck inside
    have code : ∀ {off : Nat} {k : Nat}, off < 11 → frameField (OutFrame.response tag result).body off 1 = natBE [BitVec.ofNat 8 k] →
        k < 256 → frameField (OutFrame.response tag result).bytes off 1 = k := fun inside here fits => by
      rw [field (by omega), here, natBE_single, BitVec.toNat_ofNat, Nat.mod_eq_of_lt fits]
    refine ⟨rfl, field (by omega), (field (by omega)).trans (natBE_single tag), ?_, ?_, (field (by omega)).trans (natBE_bytesBE 2 _),
      (field (by omega)).trans (natBE_single _), (field (by omega)).trans (natBE_single _), ?_,
      (field (by omega)).trans (natBE_bytesBE 2 _)⟩
    · have verdict := code (off := 2) (k := result.verdict.code) (by omega) rfl (by cases result.verdict <;> decide)
      show (result.verdict, frameField (OutFrame.response tag result).bytes 2 1) ∈ _
      rw [verdict]
      cases result.verdict <;> decide
    · have reason := code (off := 3) (k := result.reason.code) (by omega) rfl (by cases result.reason <;> decide)
      show (result.reason, frameField (OutFrame.response tag result).bytes 3 1) ∈ _
      rw [reason]
      cases result.reason <;> decide
    · have state := code (off := 8) (k := result.state.code) (by omega) rfl (by cases result.state <;> decide)
      show (result.state, frameField (OutFrame.response tag result).bytes 8 1) ∈ _
      rw [state]
      cases result.state <;> decide
  · subst isGrant
    exact ⟨rfl, rfl, (natBE_single _).trans (BitVec.toNat_ofNat ..)⟩
  · subst isNotice
    refine ⟨rfl, rfl, ?_⟩
    cases why <;> decide

/-! ### A request's arrival (R58, R62 to R69, R71) -/

/-- The row of a request's arrival. -/
def arrivalOf (c : Fin 4) (tag : Byte) : RequestBody → Instr
  | .lookup domain learnFlag length key => .lookupFrameArrival c tag domain learnFlag length key
  | .peek domain key => .peekFrameArrival c tag domain key
  | .hold handle generation ticks => .holdFrameArrival c tag handle generation ticks

theorem exec_arrivalOf (c : Fin 4) (tag : Byte) (r : RequestBody) (s : State) :
    exec (arrivalOf c tag r) s = .next (s.requestArrives c tag r) := by cases r <;> rfl

/-- In OPEN with credit left, the request joins the queue and the queue is served. -/
theorem State.requestArrives_opened {c : Fin 4} (opened : (s.chan c).state = .opened) (credit : (s.chan c).unanswered < 8)
    (tag : Byte) (r : RequestBody) : s.requestArrives c tag r = (s.setChan c { s.chan c with
      queue := (s.chan c).queue ++ [{ tag := tag, body := r, bad := badField r }]
      unanswered := (s.chan c).unanswered + 1 }).serve c := by
  unfold State.requestArrives
  simp only [opened]
  rw [if_pos credit]

/-- A queue whose head is good has no bad request to answer. -/
theorem splitBad_of_good {q : List Request} (good : ∀ r, q.head? = some r → r.bad = none) : splitBad q = ([], q) := by
  cases q with
  | nil => rfl
  | cons r q => simp only [splitBad, good r rfl]

/-- A served channel with a good head presents it (R62, R63). -/
theorem State.serve_good {c : Fin 4} (serving : (s.chan c).serving = true) (free : s.atTable (.lc c) = false)
    (good : ∀ r, (s.chan c).queue.head? = some r → r.bad = none) (some_ : (s.chan c).queue ≠ []) :
    s.serve c = s.setChan c { s.chan c with presented := true } := by
  have answer : (s.chan c).answerBad = s.chan c := by
    rw [Channel.answerBad, splitBad_of_good good, List.length_nil, List.append_nil]
    rfl
  unfold State.serve
  rw [if_pos (by rw [serving, free]; decide)]
  simp only [answer]
  rw [if_pos (by simpa using some_)]

theorem Channel.serving_of_opened {ch : Channel} (opened : ch.state = .opened) : ch.serving = true :=
  Channel.serving_iff.2 (.inl opened)

/-- Settles O42: the queue is left when the channel is at the table, and else its good head is presented. -/
theorem requestArrivingInOpenIsQueued : Obligations.RequestArrivingInOpenIsQueued := by
  unfold Obligations.RequestArrivingInOpenIsQueued
  intro s c tag r
  dsimp only
  intro opened credit which
  show exec (arrivalOf c tag r) s = _
  rw [exec_arrivalOf, State.requestArrives_opened opened credit]
  cases atTable : s.atTable (.lc c) with
  | true =>
    rw [State.serve_skip (.inr (by exact atTable)), Bool.not_true, Bool.or_false]
  | false =>
    obtain ⟨goodHead, goodFirst⟩ := which.resolve_left (by rw [atTable]; decide)
    rw [State.serve_good (by rw [State.setChan_chan_same]; exact Channel.serving_of_opened opened) (by exact atTable)]
    · rw [State.setChan_chan_same, State.setChan_setChan, Bool.not_false, Bool.or_true]
    · rw [State.setChan_chan_same]
      dsimp only
      cases queue : (s.chan c).queue with
      | nil =>
        intro q head
        cases head
        exact goodFirst queue
      | cons q rest =>
        intro q' head
        cases head
        exact goodHead q (by rw [queue]; rfl)
    · rw [State.setChan_chan_same]
      exact List.append_ne_nil_of_right_ne_nil _ (List.cons_ne_nil _ _)

/-- A bad request that finds the queue empty is answered at once (R63). -/
theorem State.requestArrives_bad {c : Fin 4} (opened : (s.chan c).state = .opened) (none_ : (s.chan c).unanswered = 0)
    (empty : (s.chan c).queue = []) (free : s.atTable (.lc c) = false) {r : RequestBody} {why : Reason} (bad : badField r = some why)
    (tag : Byte) : s.requestArrives c tag r = s.setChan c { s.chan c with
      lane := (s.chan c).lane ++ [.response tag { verdict := .badRequest, reason := why }] } := by
  have answered : ({ s.chan c with
        queue := (s.chan c).queue ++ [{ tag := tag, body := r, bad := badField r }]
        unanswered := (s.chan c).unanswered + 1 } : Channel).answerBad
      = { s.chan c with lane := (s.chan c).lane ++ [badAnswer tag why] } := by
    simp [Channel.answerBad, empty, splitBad, bad, none_]
  rw [State.requestArrives_opened opened (by omega)]
  unfold State.serve
  rw [State.setChan_chan_same, if_pos (by
    rw [show (s.setChan c _).atTable (.lc c) = s.atTable (.lc c) from rfl, free]
    simp [Channel.serving, opened])]
  simp only [answered]
  rw [if_neg (by simp [empty]), if_neg (by rw [opened]; decide), State.setChan_setChan]
  rfl

/-- Settles O43: R58's tests in order, and the answer at an empty queue. -/
theorem badRequestIsAnsweredWithoutTheTable : Obligations.BadRequestIsAnsweredWithoutTheTable := by
  unfold Obligations.BadRequestIsAnsweredWithoutTheTable
  refine ⟨fun domain learnFlag length key => ⟨fun out => ⟨if_pos out, if_pos out⟩, fun inRange => if_neg (by omega),
      fun inRange out => ?_, fun inRange flag out => ?_, fun inRange flag low high => ?_⟩,
    fun handle ticks generation => ⟨fun out => if_pos out, fun inRange => if_neg (by omega)⟩,
    fun s c tag domain learnFlag generation length handle ticks key why => ?_⟩
  · simp only [badField]
    rw [if_neg (by omega), if_pos out]
  · simp only [badField]
    rw [if_neg (by omega), if_neg (by omega), if_pos out]
  · simp only [badField]
    rw [if_neg (by omega), if_neg (by omega), if_neg (by omega)]
  · dsimp only
    intro opened none_ empty free
    have answered := fun {r : RequestBody} (bad : badField r = some why) =>
      (exec_arrivalOf c tag r s).trans (congrArg _ (State.requestArrives_bad opened none_ empty free bad tag))
    exact ⟨answered, answered, answered⟩

theorem State.requestArrives_disabled {c : Fin 4} (disabled : (s.chan c).state = .disabled) (tag : Byte) (r : RequestBody) :
    s.requestArrives c tag r = s.setChan c ((s.chan c).send [closedAnswer tag .disabled]) := by
  unfold State.requestArrives
  simp only [disabled]

theorem State.requestArrives_draining {c : Fin 4} (draining : (s.chan c).state = .draining) (credit : (s.chan c).unanswered < 8)
    (tag : Byte) (r : RequestBody) : s.requestArrives c tag r =
      if (s.chan c).unanswered = 0 then s.setChan c ((s.chan c).send [closedAnswer tag .draining])
      else s.setChan c { s.chan c with
        waitingAnswers := (s.chan c).waitingAnswers ++ [tag], unanswered := (s.chan c).unanswered + 1 } := by
  unfold State.requestArrives
  simp only [draining]
  rw [if_pos credit]

/-- Settles O44: by the channel's state. -/
theorem requestArrivingOutOfOpen : Obligations.RequestArrivingOutOfOpen := by
  unfold Obligations.RequestArrivingOutOfOpen
  intro s c tag r
  dsimp only
  have arrives : exec (arrivalOf c tag r) s = .next (s.requestArrives c tag r) := exec_arrivalOf ..
  refine ⟨fun disabled => arrives.trans (congrArg _ ?_), fun fault => arrives.trans (congrArg _ ?_),
    fun draining none_ => arrives.trans (congrArg _ ?_), fun draining some_ credit => arrives.trans (congrArg _ ?_)⟩
  · rw [State.requestArrives_disabled disabled]
    rfl
  · unfold State.requestArrives
    simp only [fault]
  · rw [State.requestArrives_draining draining (by omega), if_pos none_]
    rfl
  · rw [State.requestArrives_draining draining credit, if_neg (by omega)]

/-! ### Entry to FAULT (R70) -/

/-- A channel about to enter FAULT, its CLOSE still pending. -/
def State.faulting (s : State) (c : Fin 4) (why : FaultReason) : State :=
  ((s.setChan c { (s.chan c).faulted why with closePending := (s.chan c).closePending }).abandon (.lc c)).latch (faultBit c)

theorem State.faultChannel_faulting (s : State) (c : Fin 4) (why : FaultReason) :
    s.faultChannel c why = (s.faulting c why).endClose c .aborted := rfl

theorem State.faulting_chan (s : State) (c : Fin 4) (why : FaultReason) :
    (s.faulting c why).chan c = { (s.chan c).faulted why with closePending := (s.chan c).closePending } := by
  simp [State.faulting]

theorem State.faulting_port (s : State) (c : Fin 4) (why : FaultReason) :
    (s.faulting c why).port = { s.port with latched := s.port.latched ||| faultBit c } := by
  simp [State.faulting, State.latch]

theorem State.faultChannel_port (s : State) (c : Fin 4) (why : FaultReason) :
    (s.faultChannel c why).port = (s.faulting c why).closePort c .aborted := by
  rw [State.faultChannel_faulting, State.endClose_eq]
  rfl

theorem State.faultChannel_port_of_none {c : Fin 4} (none_ : (s.chan c).closePending = none) (why : FaultReason) :
    (s.faultChannel c why).port = { s.port with latched := s.port.latched ||| faultBit c } := by
  rw [State.faultChannel_port, State.closePort, State.faulting_chan]
  simp only [none_]
  exact State.faulting_port ..

/-- The aborted CLOSE carries the new state, the reason and count 0 (log entry 19). -/
theorem State.faultChannel_port_of_some {c : Fin 4} {tag : BitVec 16} (pending : (s.chan c).closePending = some tag)
    (why : FaultReason) : (s.faultChannel c why).port =
      { (s.post tag 6#8 .aborted (.channel c.val 2 3 why.code 0)).port with latched := s.port.latched ||| faultBit c } := by
  have results : (s.faulting c why).channelResults c 2 = .channel c.val 2 3 why.code 0 := by
    rw [State.channelResults, State.faulting_chan]
    rfl
  rw [State.faultChannel_port, State.closePort, State.faulting_chan]
  simp only [pending]
  rw [results, State.post_port, State.faulting_port]
  rfl

theorem State.faultChannel_opAtTable (s : State) (c : Fin 4) (why : FaultReason) :
    (s.faultChannel c why).opAtTable = s.opAtTable.map fun op =>
      { op with abandoned := op.abandoned || decide (op.requester = .lc c) } := by
  rw [State.faultChannel_faulting, State.endClose_opAtTable, State.faulting, State.latch_opAtTable, State.abandon_eq]
  rfl

/-- What the entry to FAULT leaves as it was (R70). -/
theorem State.faultChannel_rest (s : State) (c : Fin 4) (why : FaultReason) :
    (s.faultChannel c why).inExec = s.inExec ∧ (s.faultChannel c why).seed = s.seed ∧ (s.faultChannel c why).domains = s.domains
      ∧ (s.faultChannel c why).profiles = s.profiles ∧ (s.faultChannel c why).table = s.table
      ∧ (s.faultChannel c why).lastGranted = s.lastGranted ∧ (s.faultChannel c why).timer = s.timer
      ∧ (s.faultChannel c why).sweep = s.sweep ∧ (s.faultChannel c why).freeCount = s.freeCount
      ∧ (s.faultChannel c why).pending = s.pending := by
  simp [State.faultChannel]

/-- A ninth request in service is an overrun (R61, R70). -/
theorem State.requestArrives_overrun {c : Fin 4} (serving : (s.chan c).state = .opened ∨ (s.chan c).state = .draining)
    (full : 8 ≤ (s.chan c).unanswered) (tag : Byte) (r : RequestBody) : s.requestArrives c tag r = s.faultChannel c .overrun := by
  unfold State.requestArrives
  rcases serving with state | state <;>
  · simp only [state]
    exact if_neg (Nat.not_lt.2 full)

/-- Settles O45: both entries are the entry to FAULT, block by block. -/
theorem faultEntryDiscardsAndNotifies : Obligations.FaultEntryDiscardsAndNotifies := by
  unfold Obligations.FaultEntryDiscardsAndNotifies
  intro s c i why
  dsimp only
  intro cause
  refine ⟨fun serving => ⟨s.faultChannel c why, ?_, (State.faultChannel_chan ..).trans (if_pos rfl),
    fun c' other => (State.faultChannel_chan ..).trans (if_neg other), fun op atTable => ?_, fun free => ?_,
    fun none_ => State.faultChannel_port_of_none none_ why, fun tag pending => State.faultChannel_port_of_some pending why,
    s.faultChannel_rest c why⟩, ?_⟩
  · rcases cause with ⟨f, e, rfl, error, rfl⟩ | ⟨full, rfl, arrival⟩
    · rw [exec_badFrameArrival, State.frameArrives_error (Channel.serving_iff.2 serving) error]
      cases e <;> rfl
    · have overrun := fun tag r => (exec_arrivalOf c tag r s).trans (congrArg _ (State.requestArrives_overrun serving full tag r))
      rcases arrival with ⟨tag, domain, learnFlag, length, key, rfl⟩ | ⟨tag, domain, key, rfl⟩ | ⟨tag, handle, generation, ticks, rfl⟩
      · exact overrun tag (.lookup domain learnFlag length key)
      · exact overrun tag (.peek domain key)
      · exact overrun tag (.hold handle generation ticks)
  · rw [State.faultChannel_opAtTable, atTable]
    rfl
  · rw [State.faultChannel_opAtTable, free]
    rfl
  · rintro out ⟨f, rfl⟩
    rcases cause with ⟨f', e, same, error, -⟩ | ⟨-, -, arrival⟩
    · cases same
      have idle : (s.chan c).serving = false := by
        rw [Bool.eq_false_iff, Ne, Channel.serving_iff]
        rcases out with state | state <;> rw [state] <;> simp
      rw [exec_badFrameArrival]
      simp [State.frameArrives, error, idle]
    · rcases arrival with ⟨_, _, _, _, _, other⟩ | ⟨_, _, _, other⟩ | ⟨_, _, _, _, other⟩ <;> cases other

end Sys2Proof.Machine
end

section
/-! PROOF. The requests of the lookup channels at the table: what a LOOKUP does on a hit and on a miss, what a PEEK answers, and
what a HOLD request does (R79 to R94). -/

namespace Sys2Proof.Machine

variable {s : State} {t T : FlowTable} {h : Nat}

/-! ### The rows at their grant (R80, R91, R93) -/

theorem domain_ofNat (d : Fin 16) : Fin.ofNat 16 (BitVec.ofNat 8 d.val).toNat = d := by
  apply Fin.ext
  rw [Fin.val_ofNat, BitVec.toNat_ofNat]
  omega

theorem exec_lookup_granted {c : Fin 4} {tag flag : Byte} {d : Fin 16} {length : BitVec 16} {key : Key}
    (granted : s.nextGrant = some (.lc c))
    (head : (s.chan c).queue.head? = some { tag := tag, body := .lookup (BitVec.ofNat 8 d.val) flag length key, bad := none }) :
    exec .lookup s = .next (s.grantRequest c (s.lookupOp c d (flag = 1#8) length.toNat key)) := by
  show execLookup s = _
  unfold execLookup
  rw [State.grantedRequest_eq granted head]
  simp only [domain_ofNat]

theorem exec_peek_granted {c : Fin 4} {tag : Byte} {d : Fin 16} {key : Key} (granted : s.nextGrant = some (.lc c))
    (head : (s.chan c).queue.head? = some { tag := tag, body := .peek (BitVec.ofNat 8 d.val) key, bad := none }) :
    exec .peek s = .next (s.grantRequest c (s.peekOp d key)) := by
  show execPeek s = _
  unfold execPeek
  rw [State.grantedRequest_eq granted head]
  simp only [domain_ofNat]

theorem exec_holdRequest_granted {c : Fin 4} {tag generation : Byte} {handle ticks : BitVec 16} (granted : s.nextGrant = some (.lc c))
    (head : (s.chan c).queue.head? = some { tag := tag, body := .hold handle generation ticks, bad := none }) :
    exec .holdRequest s = .next (s.grantRequest c (s.holdOp handle.toNat generation ticks.toNat)) := by
  show execHoldRequest s = _
  unfold execHoldRequest
  rw [State.grantedRequest_eq granted head]

theorem State.lookupOp_hit {d : Fin 16} {key : Key} (enabled : s.domains[d].enabled = true)
    (found : s.table.search s.seed d (key &&& s.domains[d].mask) = (T, some h)) (c : Fin 4) (flag : Bool) (length : Nat) :
    s.lookupOp c d flag length key = T.hit s.profiles h s.timer.timeBase length := by
  unfold State.lookupOp
  rw [if_neg (by rw [enabled]; decide)]
  simp only [found]

theorem State.lookupOp_miss {d : Fin 16} {key : Key} (enabled : s.domains[d].enabled = true)
    (missed : s.table.search s.seed d (key &&& s.domains[d].mask) = (T, none)) (c : Fin 4) (flag : Bool) (length : Nat) :
    s.lookupOp c d flag length key = T.missed s.domains[d] s.profiles c d (key &&& s.domains[d].mask)
      (bucket s.seed d (key &&& s.domains[d].mask)) flag s.timer.timeBase length := by
  unfold State.lookupOp
  rw [if_neg (by rw [enabled]; decide)]
  simp only [missed]

theorem State.lookupOp_off {d : Fin 16} (off : s.domains[d].enabled = false) (c : Fin 4) (flag : Bool) (length : Nat) (key : Key) :
    s.lookupOp c d flag length key = (s.table, { verdict := .domainOff }) := by
  unfold State.lookupOp
  exact if_pos (by rw [off]; decide)

/-! ### The meter (R51, R52, R10) -/

/-- The tokens of a body refilled up to the burst of a profile (R51). -/
def Body.filled (b : Body) (p : Profile) (now : Nat) : Nat := min p.burst (b.tokens + p.rate * (now - b.meterTime))

/-- One packet metered on a body: under profile 0 nothing changes, else the tokens are refilled and taken when they reach the
length (R51, R52). -/
theorem Body.metered_eq (b : Body) (ps : Vector Profile 64) (now length : Nat) : b.metered ps now length =
    ({ b with
        tokens := if b.profile = 0 then b.tokens
          else if length ≤ b.filled ps[b.profile] now then b.filled ps[b.profile] now - length else b.filled ps[b.profile] now
        meterTime := if b.profile = 0 then b.meterTime else now },
      decide (b.profile = 0 ∨ length ≤ b.filled ps[b.profile] now)) := by
  unfold Body.metered
  by_cases zero : b.profile = 0
  · rw [if_pos zero, if_pos zero, if_pos zero, decide_eq_true (Or.inl zero)]
  · simp only [zero, if_false, false_or, meter]
    by_cases fits : length ≤ b.filled ps[b.profile] now
    · have fits' : length ≤ min ps[b.profile].burst (b.tokens + ps[b.profile].rate * (now - b.meterTime)) := fits
      simp only [if_pos fits, if_pos fits', decide_eq_true fits]
      rfl
    · have short : ¬ length ≤ min ps[b.profile].burst (b.tokens + ps[b.profile].rate * (now - b.meterTime)) := fits
      simp only [if_neg fits, if_neg short, decide_eq_false fits]
      rfl

/-! ### A hit on an ACTIVE record (R81) -/

/-- The body of an ACTIVE record after a hit: the packet metered and counted, and a lease above 0 armed afresh (R81). -/
theorem FlowTable.hitActive_body (T : FlowTable) (ps : Vector Profile 64) (h now length : Nat) :
    (T.hitActive ps h now length).1.body h =
      { (((T.body h).metered ps now length).1.counted length ((T.body h).metered ps now length).2) with
        deadline := if 0 < (T.body h).leaseInterval then some (clampTime now (T.body h).leaseInterval) else (T.body h).deadline } := by
  unfold FlowTable.hitActive
  simp only [FlowTable.body_refresh, FlowTable.body_modifyBody, if_true]
  rw [Body.metered_eq]
  by_cases leased : 0 < (T.body h).leaseInterval <;> simp [Body.counted, leased]

theorem FlowTable.hitActive_others (T : FlowTable) (ps : Vector Profile 64) (h now length : Nat) :
    FlowTable.OthersKept T (T.hitActive ps h now length).1 h :=
  FlowTable.OthersKept.of_fields (fun k _ => by simp [FlowTable.hitActive])
    (fun k other => by simp [FlowTable.hitActive, FlowTable.body_refresh, FlowTable.body_modifyBody, other])
    (fun k _ => by simp [FlowTable.hitActive])

theorem FlowTable.hitActive_expiryQ (T : FlowTable) (ps : Vector Profile 64) (h now length : Nat) :
    (T.hitActive ps h now length).1.expiryQ =
      if 0 < (T.body h).leaseInterval then queueInsert (clampTime now (T.body h).leaseInterval) h (queueRemove h T.expiryQ)
      else T.expiryQ := by
  unfold FlowTable.hitActive
  rw [FlowTable.refresh_expiryQ, FlowTable.body_modifyBody, if_pos rfl, Body.metered_eq]
  rfl

/-- A hit on an ACTIVE record leaves the counts, the lists and the hold queue. -/
theorem FlowTable.hitActive_rest (T : FlowTable) (ps : Vector Profile 64) (h now length : Nat) :
    (T.hitActive ps h now length).1.counts = T.counts ∧ (T.hitActive ps h now length).1.learned = T.learned
      ∧ (T.hitActive ps h now length).1.closed = T.closed ∧ (T.hitActive ps h now length).1.holdQ = T.holdQ := by
  simp [FlowTable.hitActive]

theorem FlowTable.hitActive_dir (T : FlowTable) (ps : Vector Profile 64) (h now length : Nat) :
    (T.hitActive ps h now length).1.dir h = T.dir h := by simp [FlowTable.hitActive]

theorem FlowTable.hitActive_bad (T : FlowTable) (ps : Vector Profile 64) (h now length : Nat) :
    (T.hitActive ps h now length).1.bad h = T.bad h := by simp [FlowTable.hitActive]

theorem FlowTable.hitActive_result (T : FlowTable) (ps : Vector Profile 64) (h now length : Nat) :
    (T.hitActive ps h now length).2 =
      { verdict := if ((T.body h).metered ps now length).2 then .conform else .exceed, handle := h,
        generation := (T.dir h).generation, cls := (T.body h).cls, state := (T.dir h).state } := by
  have cls : ((T.hitActive ps h now length).1.body h).cls = (T.body h).cls := by rw [FlowTable.hitActive_body, Body.metered_eq]; rfl
  have dir := T.hitActive_dir ps h now length
  show FlowTable.resultFor (T.hitActive ps h now length).1 h _ = _
  rw [FlowTable.resultFor, dir, cls]

theorem FlowTable.hit_active (active : (T.dir h).state = .active) (ps : Vector Profile 64) (now length : Nat) :
    T.hit ps h now length = T.hitActive ps h now length := by
  unfold FlowTable.hit
  simp only [active]

/-- Settles O46: the hit's body, block by block. -/
theorem lookupHitOnAnActiveRecord : Obligations.LookupHitOnAnActiveRecord := by
  unfold Obligations.LookupHitOnAnActiveRecord
  intro s c tag flag d length key T h granted head enabled found active
  dsimp only
  have run : exec .lookup s = .next (s.grantRequest c (T.hitActive s.profiles h s.timer.timeBase length.toNat)) := by
    rw [exec_lookup_granted granted head, State.lookupOp_hit enabled found, FlowTable.hit_active active]
  obtain ⟨counts, learned, closed, holdQ⟩ := T.hitActive_rest s.profiles h s.timer.timeBase length.toNat
  refine ⟨(T.hitActive s.profiles h s.timer.timeBase length.toNat).1,
    if ((T.body h).metered s.profiles s.timer.timeBase length.toNat).2 then .conform else .exceed, ?_, ?_, ?_, T.hitActive_dir ..,
    T.hitActive_bad .., T.hitActive_others _ _ _ _, ?_, ?_, ?_, ?_, ?_, ?_, counts, learned, closed, holdQ, ?_, ?_⟩
  · rw [run, State.grantRequest, FlowTable.hitActive_result, active]
  · rw [Body.metered_eq]
    exact fun conforms => if_pos (decide_eq_true conforms)
  · rw [Body.metered_eq]
    exact fun exceeds => if_neg (by rw [decide_eq_true_eq]; exact exceeds)
  · rw [FlowTable.hitActive_body, Body.metered_eq]
    rfl
  · rw [FlowTable.hitActive_body, Body.metered_eq]
    exact fun zero => if_pos zero
  · rw [FlowTable.hitActive_body, Body.metered_eq]
    exact fun other fits => (if_neg other).trans (if_pos fits)
  · rw [FlowTable.hitActive_body, Body.metered_eq]
    exact fun other short => (if_neg other).trans (if_neg (Nat.not_le.2 short))
  · rw [FlowTable.hitActive_body, Body.metered_eq]
    exact fun conforms => if_pos (decide_eq_true conforms)
  · rw [FlowTable.hitActive_body, Body.metered_eq]
    exact fun exceeds => if_neg (by rw [decide_eq_true_eq]; exact exceeds)
  · intro none_
    rw [FlowTable.hitActive_expiryQ, if_neg (by omega)]
  · intro leased k
    rw [FlowTable.hitActive_expiryQ, if_pos leased, queueTime_rearm]
    rfl

/-! ### A hit on another record (R83, R84, R90) -/

/-- Settles O47: by the record's state. -/
theorem lookupHitOnOtherRecords : Obligations.LookupHitOnOtherRecords := by
  unfold Obligations.LookupHitOnOtherRecords
  intro s c tag flag d length key T h granted head enabled found
  dsimp only
  have run : exec .lookup s = .next (s.grantRequest c (T.hit s.profiles h s.timer.timeBase length.toNat)) := by
    rw [exec_lookup_granted granted head, State.lookupOp_hit enabled found]
  refine ⟨fun w held hold => ?_, fun provisional => ?_, fun closing => ?_⟩
  · have hit : T.hit s.profiles h s.timer.timeBase length.toNat
        = (T, { T.resultFor h .held with holdRemaining := T.holdRemaining h s.timer.timeBase }) := by
      unfold FlowTable.hit
      simp only [held]
    rw [run, hit, State.grantRequest, FlowTable.holdRemaining, hold]
    rfl
  · have hit : T.hit s.profiles h s.timer.timeBase length.toNat = (T.modifyBody h (fun b => b.counted length.toNat true),
        (T.modifyBody h (fun b => b.counted length.toNat true)).resultFor h .provisional) := by
      unfold FlowTable.hit
      simp only [provisional]
    have dir : (T.modifyBody h (fun b => b.counted length.toNat true)).dir h = T.dir h := by simp
    have body : (T.modifyBody h (fun b => b.counted length.toNat true)).body h = (T.body h).counted length.toNat true := by
      rw [FlowTable.body_modifyBody, if_pos rfl]
    refine ⟨T.modifyBody h (fun b => b.counted length.toNat true), ?_, dir, by simp,
      FlowTable.OthersKept.of_fields (fun k _ => by simp) (fun k other => by simp [FlowTable.body_modifyBody, other])
        (fun k _ => by simp), ⟨rfl, rfl, rfl, rfl, rfl⟩, body⟩
    rw [run, hit, State.grantRequest, FlowTable.resultFor, dir, body]
    rfl
  · have hit : ∀ r, (T.dir h).closeReason = some r → T.hit s.profiles h s.timer.timeBase length.toNat
        = (T, { T.resultFor h .closed with reason := r.verdictReason }) := by
      intro r reason
      unfold FlowTable.hit
      simp only [closing, reason]
    refine ⟨fun reason => ?_, fun reason => ?_, fun reason => ?_⟩
    all_goals
      rw [run, hit _ reason]
      rfl

/-! ### A miss (R85, R86, R88) -/

theorem FlowTable.missed_off {dom : DomainEntry} {flag : Bool} (off : flag = false ∨ dom.learnMode = .off) (T : FlowTable)
    (ps : Vector Profile 64) (c : Fin 4) (d : Fin 16) (k : Key) (b : BitVec 11) (now length : Nat) :
    T.missed dom ps c d k b flag now length = (T, { verdict := .miss, reason := .learnOff }) := by
  unfold FlowTable.missed
  exact if_pos (by rcases off with e | e <;> simp [e])

theorem FlowTable.missed_quota {dom : DomainEntry} {d : Fin 16} (on : dom.learnMode ≠ .off) (full : dom.quota ≤ T.count d)
    (ps : Vector Profile 64) (c : Fin 4) (k : Key) (b : BitVec 11) (now length : Nat) :
    T.missed dom ps c d k b true now length = (T, { verdict := .miss, reason := .quota }) := by
  unfold FlowTable.missed
  rw [if_neg (by simp [on]), if_neg (Nat.not_lt.2 full)]

theorem FlowTable.missed_full {dom : DomainEntry} {d : Fin 16} {b : BitVec 11} (on : dom.learnMode ≠ .off) (room : T.count d < dom.quota)
    (none_ : T.placement b = none) (ps : Vector Profile 64) (c : Fin 4) (k : Key) (now length : Nat) :
    T.missed dom ps c d k b true now length = (T, { verdict := .miss, reason := .full }) := by
  unfold FlowTable.missed
  rw [if_neg (by simp [on]), if_pos room]
  simp only [none_]

theorem FlowTable.missed_learns {dom : DomainEntry} {d : Fin 16} {b : BitVec 11} (on : dom.learnMode ≠ .off)
    (room : T.count d < dom.quota) (placed : T.placement b = some h) (ps : Vector Profile 64) (c : Fin 4) (k : Key) (now length : Nat) :
    T.missed dom ps c d k b true now length = T.learn dom ps c d k h now length := by
  unfold FlowTable.missed
  rw [if_neg (by simp [on]), if_pos room]
  simp only [placed]

/-- The result that names a record just created (R79). -/
theorem FlowTable.resultFor_create (T : FlowTable) (h : Nat) (x : RecState) (d : Fin 16) (b : Body) (v : Verdict) :
    (T.create h x d b).resultFor h v =
      { verdict := v, handle := h, generation := (T.dir h).generation, cls := b.cls, state := x } := by
  rw [FlowTable.resultFor, FlowTable.dir_create, FlowTable.body_create, if_pos rfl, if_pos rfl]

theorem FlowTable.learn_confirm {dom : DomainEntry} (mode : dom.learnMode = .confirm) (T : FlowTable) (ps : Vector Profile 64)
    (c : Fin 4) (d : Fin 16) (k : Key) (h now length : Nat) : T.learn dom ps c d k h now length =
      (T.create h .provisional d (learnedConfirm dom c k now length),
        { verdict := .learned, reason := .conform, handle := h, generation := (T.dir h).generation, cls := dom.learnClass,
          state := .provisional }) := by
  unfold FlowTable.learn
  simp only [mode, FlowTable.resultFor_create]
  rfl

theorem FlowTable.learn_auto {dom : DomainEntry} (mode : dom.learnMode = .auto) (T : FlowTable) (ps : Vector Profile 64)
    (c : Fin 4) (d : Fin 16) (k : Key) (h now length : Nat) : T.learn dom ps c d k h now length =
      (T.create h .active d (((learnedAuto dom ps c k now).metered ps now length).1.counted length
          ((learnedAuto dom ps c k now).metered ps now length).2),
        { verdict := .learned, reason := if ((learnedAuto dom ps c k now).metered ps now length).2 then .conform else .exceed, handle := h,
          generation := (T.dir h).generation, cls := dom.learnClass, state := .active }) := by
  unfold FlowTable.learn
  simp only [mode, FlowTable.resultFor_create]
  rw [Body.metered_eq]
  rfl

/-- The meter verdict on the first packet of a record learned in AUTO mode: its tokens stand at the burst (R53, R88). -/
theorem learnedAuto_metered (dom : DomainEntry) (ps : Vector Profile 64) (c : Fin 4) (k : Key) (now length : Nat) :
    (learnedAuto dom ps c k now).metered ps now length =
      ({ learnedAuto dom ps c k now with
          tokens := if dom.learnProfile = 0 then 0
            else if decide (dom.learnProfile = 0 ∨ length ≤ ps[dom.learnProfile].burst) then ps[dom.learnProfile].burst - length
            else ps[dom.learnProfile].burst },
        decide (dom.learnProfile = 0 ∨ length ≤ ps[dom.learnProfile].burst)) := by
  rw [Body.metered_eq]
  show (({ learnedAuto dom ps c k now with
      tokens := if dom.learnProfile = 0 then burstOf ps dom.learnProfile
        else if length ≤ (learnedAuto dom ps c k now).filled ps[dom.learnProfile] now
          then (learnedAuto dom ps c k now).filled ps[dom.learnProfile] now - length
          else (learnedAuto dom ps c k now).filled ps[dom.learnProfile] now
      meterTime := if dom.learnProfile = 0 then now else now } : Body),
    decide (dom.learnProfile = 0 ∨ length ≤ (learnedAuto dom ps c k now).filled ps[dom.learnProfile] now)) = _
  by_cases zero : dom.learnProfile = 0
  · simp [zero, burstOf, learnedAuto]
  · have full : (learnedAuto dom ps c k now).filled ps[dom.learnProfile] now = ps[dom.learnProfile].burst := by
      simp [Body.filled, learnedAuto, burstOf, zero]
    rw [full]
    simp [zero, learnedAuto]

/-- The counters of a new record after its first packet (R10, R88). -/
theorem learnedAuto_first (dom : DomainEntry) (ps : Vector Profile 64) (c : Fin 4) (k : Key) (now : Nat) {length : Nat}
    (short : length ≤ 16383) (tokens : Nat) (conforms : Bool) :
    ({ learnedAuto dom ps c k now with tokens := tokens } : Body).counted length conforms =
      { learnedAuto dom ps c k now with
        tokens := tokens, packets := 1, bytes := length, exceeds := if conforms then 0 else 1 } := by
  have bytes : min Config.bytesMax (0 + length) = length := by simp only [Config.bytesMax]; omega
  simp only [Body.counted, learnedAuto, bytes]
  rfl

/-- Settles O48: the tests of a miss in order, then the creation in each learn mode. -/
theorem lookupMissLearnsOrSaysWhy : Obligations.LookupMissLearnsOrSaysWhy := by
  unfold Obligations.LookupMissLearnsOrSaysWhy
  intro s c tag flag d length key T
  dsimp only
  intro granted head enabled missed
  have run := (exec_lookup_granted granted head).trans
    (congrArg (fun out => Host.Outcome.next (s.grantRequest c out)) (State.lookupOp_miss enabled missed c (flag = 1#8) length.toNat))
  refine ⟨fun off => ?_, fun set on full => ?_, fun set on room none_ => ?_, fun h set mode room placed => ?_,
    fun h set mode room placed short => ?_⟩
  · rw [run, FlowTable.missed_off (off.imp decide_eq_false id)]
    rfl
  · rw [run, decide_eq_true set, FlowTable.missed_quota on full]
    rfl
  · rw [run, decide_eq_true set, FlowTable.missed_full on room none_]
    rfl
  · rw [run, decide_eq_true set, FlowTable.missed_learns (by rw [mode]; decide) room placed, FlowTable.learn_confirm mode]
    rfl
  · rw [run, decide_eq_true set, FlowTable.missed_learns (by rw [mode]; decide) room placed, FlowTable.learn_auto mode,
      learnedAuto_metered, learnedAuto_first _ _ _ _ _ short]
    rfl

/-! ### PEEK and HOLD (R91, R93, R94) -/

/-- Settles O49: by the domain and what the search gives. -/
theorem peekReportsAndChangesNothing : Obligations.PeekReportsAndChangesNothing := by
  unfold Obligations.PeekReportsAndChangesNothing
  intro s c tag flag d length key granted
  refine ⟨fun head => ⟨fun enabled => ⟨fun T h found => ?_, fun T missed => ?_⟩, fun off => ?_⟩, fun head off => ?_⟩
  · refine ⟨if (T.dir h).state = .held then T.holdRemaining h s.timer.timeBase else 0, ?_, fun other => if_neg other,
      fun w held hold => (if_pos held).trans (by rw [FlowTable.holdRemaining, hold]; rfl)⟩
    rw [exec_peek_granted granted head, State.peekOp, if_neg (by rw [enabled]; decide)]
    simp only [found]
    rfl
  · rw [exec_peek_granted granted head, State.peekOp, if_neg (by rw [enabled]; decide)]
    simp only [missed]
    rfl
  · rw [exec_peek_granted granted head, State.peekOp, if_pos (by rw [off]; decide)]
    rfl
  · rw [exec_lookup_granted granted head, State.lookupOp_off off]
    rfl

/-- What the hold rule leaves of a live record's directory entry: HELD above 0 ticks, else ACTIVE (R114). -/
theorem FlowTable.holdRule_dir_of_live (live : t.Live h) (now n : Nat) :
    (t.holdRule h now n).dir h = { t.dir h with state := if 0 < n then .held else .active } := by
  by_cases some_ : 0 < n
  · rw [FlowTable.dir_holdRule _ _ _ _ _ some_, if_pos rfl, if_pos some_]
  · obtain rfl : n = 0 := by omega
    rw [if_neg some_]
    rcases live with active | held
    · rw [FlowTable.holdRule_zero_other _ _ _ (by rw [active]; decide), ← active]
    · rw [FlowTable.holdRule_zero_held _ _ _ held, FlowTable.dir_release, if_pos rfl]

theorem FlowTable.holdRule_cls (live : t.Live h) (now n : Nat) : ((t.holdRule h now n).body h).cls = (t.body h).cls := by
  by_cases some_ : 0 < n
  · rw [FlowTable.body_holdRule _ _ _ _ _ some_, if_pos rfl]
  · obtain rfl : n = 0 := by omega
    rcases live with active | held
    · rw [FlowTable.holdRule_zero_other _ _ _ (by rw [active]; decide)]
    · rw [FlowTable.holdRule_zero_held _ _ _ held, FlowTable.body_release, if_pos rfl]

/-- What remains of a hold that the rule has just set (R79, R114). -/
theorem FlowTable.holdRule_holdRemaining (t : FlowTable) (h now : Nat) {n : Nat} (some_ : 0 < n) :
    (t.holdRule h now n).holdRemaining h now = min 281474976710655 (now + n) - now := by
  rw [FlowTable.holdRemaining, FlowTable.body_holdRule _ _ _ _ _ some_, if_pos rfl]
  rfl

/-- A HOLD request on a live sound record: the hold rule, and ACCEPTED with what it leaves (R94). -/
theorem State.holdOp_accepted {generation : Byte} (current : s.table.Current h generation) (live : s.table.Live h)
    (sound : s.table.bad h = false) (ticks : Nat) : s.holdOp h generation ticks = (s.table.holdRule h s.timer.timeBase ticks,
      { verdict := .accepted, handle := h, generation := generation, cls := (s.table.body h).cls,
        state := if 0 < ticks then .held else .active,
        holdRemaining := if 0 < ticks then min 281474976710655 (s.timer.timeBase + ticks) - s.timer.timeBase else 0 }) := by
  unfold State.holdOp
  dsimp only
  rw [if_neg (by rw [DirEntry.stale_iff]; exact not_not.2 current), if_neg (by rcases live with e | e <;> simp [e]),
    if_neg (by rw [sound]; decide), FlowTable.resultFor, FlowTable.holdRule_dir_of_live live, FlowTable.holdRule_cls live, current.2]
  by_cases some_ : 0 < ticks
  · rw [if_pos some_, if_pos rfl, if_pos some_, s.table.holdRule_holdRemaining h _ some_]
  · rw [if_neg some_, if_neg (show RecState.active ≠ .held by decide), if_neg some_]

/-- Settles O50: the tests of a HOLD request in order, then the hold rule. -/
theorem holdRequestIsApplied : Obligations.HoldRequestIsApplied := by
  unfold Obligations.HoldRequestIsApplied
  intro s c tag generation handle ticks granted head
  dsimp only
  rw [exec_holdRequest_granted granted head]
  have current : ∀ {g}, s.table.Current handle.toNat g → ¬ (s.table.dir handle.toNat).stale g = true := fun cur => by
    rw [DirEntry.stale_iff]; exact not_not.2 cur
  refine ⟨fun stale => ?_, fun cur state => ?_, fun cur state bad => ?_, fun cur state sound => ⟨fun some_ => ?_, fun zero => ?_⟩⟩
  · rw [State.holdOp, if_pos ((DirEntry.stale_iff ..).2 stale)]
    rfl
  · rw [State.holdOp, if_neg (current cur), if_pos (by rcases state with e | e <;> rw [e] <;> decide)]
    rfl
  · rw [State.holdOp, if_neg (current cur), if_neg (by rcases state with e | e <;> simp [e]), if_pos bad]
    rfl
  · rw [State.holdOp_accepted cur state sound, if_pos some_, if_pos some_]
    rfl
  · rw [State.holdOp_accepted cur state sound, zero]
    rfl

end Sys2Proof.Machine
end

section
/-! PROOF. The lease timer and the sweep positions: what the LT presents, its operations at the table, the four slots of a position,
and what its end does to the walk (R106 to R110, R117, R169 to R178). -/

namespace Sys2Proof.Machine

variable {s : State} {t : FlowTable} {h : Nat}

/-! ### What the LT presents (R106, R107) -/

/-- The first due entry of the two queues in the combined order (R107). -/
def firstDueOf (now : Nat) (expiryQ holdQ : List (Nat × Nat)) : Option (TimerOp × Nat) :=
  match dueHead now expiryQ, dueHead now holdQ with
  | some p, some q => if p.1 < q.1 ∨ (p.1 = q.1 ∧ p.2 < q.2) then some (.expiry, p.2) else some (.holdEnd, q.2)
  | some p, none => some (.expiry, p.2)
  | none, some q => some (.holdEnd, q.2)
  | none, none => none

theorem State.firstDue_eq (s : State) : s.firstDue = firstDueOf s.timer.timeBase s.seen.expiryQ s.seen.holdQ := by
  unfold State.firstDue firstDueOf State.dueExpiry State.dueHold
  cases dueHead s.timer.timeBase s.seen.expiryQ <;> cases dueHead s.timer.timeBase s.seen.holdQ <;> rfl

/-- The least entry of a queue, when it is due, is the queue's due head. -/
theorem dueHead_of_least {now : Nat} {q : List (Nat × Nat)} {p : Nat × Nat} (inv : QueueInv q) (mem : p ∈ q) (due : p.1 ≤ now)
    (least : ∀ x ∈ q, x = p ∨ queueLt p x) : dueHead now q = some p := by
  cases q with
  | nil => cases mem
  | cons y rest =>
    have head : y = p := by
      rcases least y (List.mem_cons_self ..) with same | after
      · exact same
      · rcases List.mem_cons.1 mem with same | inRest
        · exact same.symm
        · have before := (List.pairwise_cons.1 inv.1).1 p inRest
          unfold queueLt at before after
          omega
    subst head
    exact if_pos due

/-- The entry that comes first in both queues, when it is due, is the first due entry (R107). -/
theorem firstDueOf_of_first {now w h : Nat} {expiryQ holdQ : List (Nat × Nat)} {op : TimerOp} {queue : TimerOp → List (Nat × Nat)}
    (expiry : queue .expiry = expiryQ) (hold : queue .holdEnd = holdQ) (expiryInv : QueueInv expiryQ) (holdInv : QueueInv holdQ)
    (mem : (w, h) ∈ queue op) (due : w ≤ now)
    (first : ∀ op' w' h', (w', h') ∈ queue op' → (op' = op ∧ w' = w ∧ h' = h) ∨ w < w' ∨ (w = w' ∧ h < h')) :
    firstDueOf now expiryQ holdQ = some (op, h) := by
  have own : ∀ x ∈ queue op, x = (w, h) ∨ queueLt (w, h) x := fun x inQueue => by
    rcases first op x.1 x.2 inQueue with ⟨-, time, handle⟩ | after
    · exact .inl (Prod.ext time handle)
    · exact .inr after
  have other : ∀ op', op' ≠ op → ∀ x, dueHead now (queue op') = some x → queueLt (w, h) x := fun op' ne x head => by
    rcases first op' x.1 x.2 (dueHead_mem head).1 with ⟨same, -, -⟩ | after
    · exact absurd same ne
    · exact after
  subst expiry hold
  unfold firstDueOf
  cases op with
  | expiry =>
    rw [dueHead_of_least expiryInv mem due own]
    cases head : dueHead now (queue .holdEnd) with
    | none => rfl
    | some q => exact if_pos (other .holdEnd (by decide) q head)
  | holdEnd =>
    rw [dueHead_of_least holdInv mem due own]
    cases head : dueHead now (queue .expiry) with
    | none => rfl
    | some p =>
      have after := other .expiry (by decide) p head
      unfold queueLt at after
      exact if_neg (by dsimp only at after ⊢; omega)

theorem dueHead_isSome {now : Nat} {q : List (Nat × Nat)} (inv : QueueInv q) (due : ∃ p ∈ q, p.1 ≤ now) :
    (dueHead now q).isSome = true := by
  cases head : dueHead now q with
  | some p => rfl
  | none =>
    obtain ⟨p, mem, isDue⟩ := due
    have := dueHead_none inv head p mem
    omega

theorem dueHead_eq_none {now : Nat} {q : List (Nat × Nat)} (notDue : ¬ ∃ p ∈ q, p.1 ≤ now) : dueHead now q = none :=
  Option.eq_none_iff_forall_ne_some.2 fun _ head => notDue ⟨_, dueHead_mem head⟩

theorem exec_deadlineDue (s : State) : exec .deadlineDue s = .next (if s.dueExpiry.isSome then s.presentDue else s) := rfl

theorem exec_holdEndDue (s : State) : exec .holdEndDue s = .next (if s.dueHold.isSome then s.presentDue else s) := rfl

theorem exec_ltOperationEnd (s : State) :
    exec .ltOperationEnd s = .next (if s.atTable .lt then s.endOp.presentDue else s) := rfl

/-- With nothing outstanding the LT presents the first due entry. -/
theorem State.presentDue_of_idle (none_ : s.timer.waiting = none) (free : s.atTable .lt = false) :
    s.presentDue = { s with timer := { s.timer with waiting := s.firstDue } } := by
  unfold State.presentDue
  exact if_pos (by rw [none_, free]; decide)

/-- With something outstanding the LT presents nothing. -/
theorem State.presentDue_of_busy (busy : s.timer.waiting.isSome ∨ s.atTable .lt = true) : s.presentDue = s := by
  unfold State.presentDue
  refine if_neg ?_
  rcases busy with waits | atTable
  · rw [Option.isNone_eq_false_iff.2 waits, Bool.false_and]; decide
  · rw [atTable, Bool.not_true, Bool.and_false]; decide

theorem State.firstDue_of_first {op : TimerOp} {w h : Nat} (u : FlowTable) (seen : s.seen = u)
    (first : QueueInv u.expiryQ ∧ QueueInv u.holdQ ∧ (w, h) ∈ (match op with | .expiry => u.expiryQ | .holdEnd => u.holdQ)
      ∧ w ≤ s.timer.timeBase ∧ ∀ (op' : TimerOp) (w' h' : Nat), (w', h') ∈ (match op' with | .expiry => u.expiryQ | .holdEnd => u.holdQ) →
        (op' = op ∧ w' = w ∧ h' = h) ∨ w < w' ∨ (w = w' ∧ h < h')) : s.firstDue = some (op, h) := by
  obtain ⟨expiryInv, holdInv, mem, due, least⟩ := first
  rw [State.firstDue_eq, seen]
  exact firstDueOf_of_first (queue := fun op' => match op' with | .expiry => u.expiryQ | .holdEnd => u.holdQ) rfl rfl expiryInv holdInv
    mem due least

/-- Settles O52: the due head of each queue is its least entry, and the LT presents the lesser of the two. -/
theorem timerPresentsTheFirstDueEntry : Obligations.TimerPresentsTheFirstDueEntry := by
  unfold Obligations.TimerPresentsTheFirstDueEntry
  intro s op w h
  dsimp only
  refine ⟨fun none_ free first => ?_, fun busy => ?_, fun inv notDue => ?_, fun inv notDue => ?_,
    fun none_ atTable => ⟨fun first => ?_, fun expiryInv holdInv noExpiry noHold => ?_⟩⟩
  · have presented : s.presentDue = { s with timer := { s.timer with waiting := some (op, h) } } := by
      rw [State.presentDue_of_idle none_ free, State.firstDue_of_first s.seen rfl first]
    refine ⟨fun due => ?_, fun due => ?_⟩
    · rw [exec_deadlineDue, State.dueExpiry, if_pos (dueHead_isSome first.1 due), presented]
    · rw [exec_holdEndDue, State.dueHold, if_pos (dueHead_isSome first.2.1 due), presented]
  · rw [exec_deadlineDue, exec_holdEndDue, State.presentDue_of_busy busy, ite_self, ite_self]
    exact ⟨rfl, rfl⟩
  · rw [exec_deadlineDue, State.dueExpiry, dueHead_eq_none notDue]
    rfl
  · rw [exec_holdEndDue, State.dueHold, dueHead_eq_none notDue]
    rfl
  · rw [exec_ltOperationEnd, if_pos atTable, State.presentDue_of_idle (s := s.endOp) none_ rfl,
      State.firstDue_of_first (s := s.endOp) s.table rfl first]
    rfl
  · rw [exec_ltOperationEnd, if_pos atTable, State.presentDue_of_idle (s := s.endOp) none_ rfl, State.firstDue_eq]
    show Host.Outcome.next { s.endOp with timer := { s.timer with
      waiting := firstDueOf s.timer.timeBase s.table.expiryQ s.table.holdQ } } = _
    rw [firstDueOf, dueHead_eq_none noExpiry, dueHead_eq_none noHold, ← none_]
    rfl

/-! ### Expiry and hold end (R108 to R110, R117) -/

theorem dueIn_of_time {now w : Nat} {q : List (Nat × Nat)} (time : queueTime h q = some w) : dueIn h now q = decide (w ≤ now) := by
  rw [dueIn, time]

/-- A handle that stands in a queue above a time only is not due there. -/
theorem dueIn_false {now : Nat} {q : List (Nat × Nat)} (later : ∀ w, queueTime h q = some w → now < w) : dueIn h now q = false := by
  unfold dueIn
  cases time : queueTime h q with
  | none => rfl
  | some w => exact decide_eq_false (Nat.not_le.2 (later w time))

theorem exec_expiry_granted (granted : s.nextGrant = some .lt) (waits : s.timer.waiting = some (.expiry, h)) :
    exec .expiry s = .next (s.grant .lt (s.expiryOp h) .timer) := by
  show execExpiry s = _
  unfold execExpiry
  rw [granted, waits]

theorem exec_holdEnd_granted (granted : s.nextGrant = some .lt) (waits : s.timer.waiting = some (.holdEnd, h)) :
    exec .holdEnd s = .next (s.grant .lt (s.holdEndOp h) .timer) := by
  show execHoldEnd s = _
  unfold execHoldEnd
  rw [granted, waits]

/-- Settles O51: not due, damaged, or carried out by the record's state. -/
theorem expiryAndHoldEndAtTheTable : Obligations.ExpiryAndHoldEndAtTheTable := by
  unfold Obligations.ExpiryAndHoldEndAtTheTable
  intro s h granted
  dsimp only
  refine ⟨fun waits => ?_, fun waits => ?_⟩
  · rw [exec_expiry_granted granted waits]
    refine ⟨fun later => ?_, fun w time due => ⟨fun bad => ?_, fun sound active => ?_, fun sound provisional => ?_⟩⟩
    · rw [State.expiryOp, if_neg (by rw [dueIn_false later]; decide)]
    · rw [State.expiryOp, if_pos (by rw [dueIn_of_time time]; exact decide_eq_true due), if_pos bad]
    · rw [State.expiryOp, if_pos (by rw [dueIn_of_time time]; exact decide_eq_true due), if_neg (by rw [sound]; decide)]
      simp only [active]
    · rw [State.expiryOp, if_pos (by rw [dueIn_of_time time]; exact decide_eq_true due), if_neg (by rw [sound]; decide)]
      simp only [provisional]
  · rw [exec_holdEnd_granted granted waits]
    refine ⟨fun notDue => ?_, fun w held time due => ?_⟩
    · rw [State.holdEndOp, if_neg]
      rintro ⟨held, due⟩
      rcases notDue with other | later
      · exact other held
      · rw [dueIn_false later] at due
        cases due
    · have taken : (s.table.dir h).state = .held ∧ dueIn h s.timer.timeBase s.table.holdQ = true :=
        ⟨held, by rw [dueIn_of_time time]; exact decide_eq_true due⟩
      refine ⟨fun bad => ?_, fun sound => ?_⟩
      · rw [State.holdEndOp, if_pos taken, if_pos bad]
      · rw [State.holdEndOp, if_pos taken, if_neg (by rw [sound]; decide), FlowTable.holdRule_zero_held _ _ _ held]

/-! ### The slots of a position (R169 to R172) -/

theorem exec_sweepPosition_granted (granted : s.nextGrant = some .su) : exec .sweepPosition s =
    .next (s.grant .su s.positionOp.1 (.position s.positionOp.2.visited s.positionOp.2.matched s.positionOp.2.acted)) := by
  show execSweepPosition s = _
  unfold execSweepPosition
  rw [granted]

/-- The four slots of a position in handle order (R169). -/
theorem State.positionOp_eq (s : State) : s.positionOp =
    [4 * s.sweep.cursor, 4 * s.sweep.cursor + 1, 4 * s.sweep.cursor + 2, 4 * s.sweep.cursor + 3].foldl
      (sweepSlot s.sweep.params s.profiles s.domains s.timer.timeBase) (s.table, { visited := 0, matched := 0, acted := 0 }) := rfl

theorem SweepParams.selects_iff (p : SweepParams) (e : DirEntry) : p.selects e = true ↔
    ((e.state = .provisional ∧ p.onProvisional = true) ∨ (e.state = .active ∧ p.onActive = true)
      ∨ (e.state = .held ∧ p.onHeld = true)) ∧ (p.selector = none ∨ p.selector = some e.domain) := by
  unfold SweepParams.selects SweepParams.inStateSet
  cases e.state <;> cases p.selector <;> simp

theorem SweepParams.classTest_iff (p : SweepParams) (cls : Byte) :
    p.classTest cls = true ↔ cls &&& p.classMask = p.classValue &&& p.classMask := decide_eq_true_iff

section
variable {p : SweepParams} {ps : Vector Profile 64} {ds : Vector DomainEntry 16} {now : Nat} {n : SweepCounts}

theorem sweepSlot_free (free : (t.dir h).state = .free) : sweepSlot p ps ds now (t, n) h = (t, n) := if_pos free

theorem sweepSlot_passed (used : (t.dir h).state ≠ .free) (out : p.selects (t.dir h) = false) :
    sweepSlot p ps ds now (t, n) h = (t, { n with visited := n.visited + 1 }) := by
  unfold sweepSlot
  rw [if_neg used, if_pos (by rw [out]; decide)]

theorem SweepParams.used_of_selects (chosen : p.selects (t.dir h) = true) : (t.dir h).state ≠ .free := by
  rcases ((p.selects_iff _).1 chosen).1 with ⟨e, -⟩ | ⟨e, -⟩ | ⟨e, -⟩ <;> rw [e] <;> decide

theorem sweepSlot_damaged (chosen : p.selects (t.dir h) = true) (bad : t.bad h = true) :
    sweepSlot p ps ds now (t, n) h = (t.damage h, { n with visited := n.visited + 1 }) := by
  unfold sweepSlot
  rw [if_neg (SweepParams.used_of_selects chosen), if_neg (by rw [chosen]; decide), if_pos bad]

theorem sweepSlot_otherClass (chosen : p.selects (t.dir h) = true) (sound : t.bad h = false)
    (other : p.classTest (t.body h).cls = false) : sweepSlot p ps ds now (t, n) h = (t, { n with visited := n.visited + 1 }) := by
  unfold sweepSlot
  rw [if_neg (SweepParams.used_of_selects chosen), if_neg (by rw [chosen]; decide), if_neg (by rw [sound]; decide),
    if_pos (by rw [other]; decide)]

/-- A matched record is counted, and acted on as its action says (R171). -/
theorem sweepSlot_matched (chosen : p.selects (t.dir h) = true) (sound : t.bad h = false)
    (same : p.classTest (t.body h).cls = true) {u : FlowTable} {acted : Bool} (act : sweepAct p.action ps ds now h t = (u, acted)) :
    sweepSlot p ps ds now (t, n) h =
      (u, { n with visited := n.visited + 1, matched := n.matched + 1, acted := n.acted + if acted then 1 else 0 }) := by
  unfold sweepSlot
  rw [if_neg (SweepParams.used_of_selects chosen), if_neg (by rw [chosen]; decide), if_neg (by rw [sound]; decide),
    if_neg (by rw [same]; decide), act]

end

theorem FlowTable.OthersKept.modifyBody (t : FlowTable) (h : Nat) (f : Body → Body) : FlowTable.OthersKept t (t.modifyBody h f) h :=
  FlowTable.OthersKept.of_fields (fun k _ => by simp) (fun k other => by simp [FlowTable.body_modifyBody, other]) (fun k _ => by simp)

/-- A pinned record is acted on by the count alone (R172). -/
theorem sweepAct_pinned {a : SweepAction} (other : a ≠ .count) (pinned : (t.body h).pinned = true) (ps : Vector Profile 64)
    (ds : Vector DomainEntry 16) (now : Nat) : sweepAct a ps ds now h t = (t, false) := by
  cases a with
  | count => exact absurd rfl other
  | retire => exact if_pos pinned
  | reclass c | reprofile q | release => exact if_pos (by rw [pinned]; rfl)

/-- Settles O53: the four slots in order, and each slot by the first test it fails. -/
theorem sweepPositionExaminesFourSlots : Obligations.SweepPositionExaminesFourSlots := by
  unfold Obligations.SweepPositionExaminesFourSlots
  refine ⟨fun s granted => ?_, fun p ps ds now h v m a t => ?_⟩
  · rw [exec_sweepPosition_granted granted, State.positionOp_eq]
    simp only [List.foldl_cons, List.foldl_nil]
  dsimp only
  rw [← SweepParams.selects_iff, ← SweepParams.classTest_iff]
  refine ⟨sweepSlot_free, fun used out => sweepSlot_passed used (Bool.eq_false_iff.2 out), sweepSlot_damaged,
    fun chosen sound other => sweepSlot_otherClass chosen sound (Bool.eq_false_iff.2 other), fun chosen sound same => ?_⟩
  have acts : ∀ {u : FlowTable} {acted : Bool}, sweepAct p.action ps ds now h t = (u, acted) →
      sweepSlot p ps ds now (t, { visited := v, matched := m, acted := a }) h
        = (u, { visited := v + 1, matched := m + 1, acted := a + if acted then 1 else 0 }) := sweepSlot_matched chosen sound same
  refine ⟨fun action => acts (u := t) (acted := true) (by rw [action]; rfl),
    fun action pinned => acts (sweepAct_pinned action pinned ps ds now), fun free =>
    ⟨fun action state => acts (acted := true) ?_, fun action state => acts (acted := true) ?_,
      fun c action state => acts (acted := false) ?_, fun c action state => ?_, fun q action state => acts (acted := false) ?_,
      fun q action state => ?_, fun action state => acts (acted := false) ?_, fun action state => acts (acted := true) ?_⟩⟩
  · rw [action]
    exact (if_neg (by rw [free]; decide)).trans (if_pos state)
  · rw [action]
    exact (if_neg (by rw [free]; decide)).trans (if_neg state)
  · rw [action]
    exact if_pos (by rw [state]; exact Bool.or_true _)
  · refine ⟨t.modifyBody h (fun b => { b with cls := c }), acts (acted := true) ?_, by simp, by simp [sound], by simp [FlowTable.body_modifyBody],
      FlowTable.OthersKept.modifyBody _ _ _, ⟨rfl, rfl, rfl, rfl, rfl⟩⟩
    rw [action]
    exact if_neg (by simp [free, state])
  · rw [action]
    exact if_pos (by rw [state]; exact Bool.or_true _)
  · refine ⟨t.modifyBody h (fun b => b.assignProfile ps q now), acts (acted := true) ?_, by simp, by simp [sound],
      by simp [FlowTable.body_modifyBody, Body.assignProfile, burstOf], FlowTable.OthersKept.modifyBody _ _ _, ⟨rfl, rfl, rfl, rfl, rfl⟩⟩
    rw [action]
    exact if_neg (by simp [free, state])
  · rw [action]
    exact if_pos (by simp [state])
  · rw [action, FlowTable.holdRule_zero_held _ _ _ state]
    exact if_neg (by simp [free, state])

/-! ### The end of a position (R169, R174 to R178) -/

theorem exec_sweepPositionEnd_kept {before : FlowTable} {v m a : Nat}
    (op : s.opAtTable = some { requester := .su, before := before, abandoned := false, outcome := .position v m a }) :
    exec .sweepPositionEnd s = .next ({ s.endOp with sweep := { s.sweep with
      cursor := s.sweep.cursor + 1, visited := s.sweep.visited + v, matched := s.sweep.matched + m
      acted := s.sweep.acted + a } } : State).afterPosition := by
  show execSweepPositionEnd s = _
  unfold execSweepPositionEnd
  simp only [op]
  rfl

theorem exec_sweepPositionEnd_discarded {before : FlowTable} {v m a : Nat}
    (op : s.opAtTable = some { requester := .su, before := before, abandoned := true, outcome := .position v m a }) :
    exec .sweepPositionEnd s = .next (if s.sweep.state.walking then s.endOp.presentPosition else s.endOp) := by
  show execSweepPositionEnd s = _
  unfold execSweepPositionEnd
  simp only [op, if_true]

theorem State.presentPosition_of_free (free : s.atTable .su = false) :
    s.presentPosition = { s with sweep := { s.sweep with presented := true } } :=
  if_neg (by rw [free]; decide)

theorem State.endAbort_some {e : Execution} (inExec : s.inExec = some e) : s.endAbort = s.completeSweep e.desc .ok := by
  rw [State.endAbort, inExec]

/-- Settles O54: by whether the result is discarded, and by the sweep state. -/
theorem sweepPositionEndMovesTheWalk : Obligations.SweepPositionEndMovesTheWalk := by
  unfold Obligations.SweepPositionEndMovesTheWalk
  intro s before v m a discarded op
  dsimp only
  refine ⟨?_, ?_, ?_, ?_, ?_, ?_, ?_⟩
  · rintro rfl state more
    rw [exec_sweepPositionEnd_kept op, State.afterPosition]
    simp only [state]
    rw [if_pos (by exact more), State.presentPosition_of_free rfl]
    rfl
  · rintro tag rfl state past pending
    rw [exec_sweepPositionEnd_kept op, State.afterPosition]
    simp only [state]
    rw [if_neg (Nat.not_lt.2 past), State.endSweep_some (tag := tag)]
    · rfl
    · exact pending
  · rintro tag rfl state more pending
    rw [exec_sweepPositionEnd_kept op, State.afterPosition]
    simp only [state]
    rw [if_pos (by exact more), State.endSuspend_some (tag := tag)]
    · rfl
    · exact pending
  · rintro tag tag' rfl state past pending suspend
    rw [exec_sweepPositionEnd_kept op, State.afterPosition]
    simp only [state]
    rw [if_neg (Nat.not_lt.2 past), State.endSweep_some (tag := tag), State.endSuspend_some (tag := tag')]
    · rfl
    · exact suspend
    · exact pending
  · rintro tag e rfl state pending inExec
    rw [exec_sweepPositionEnd_kept op, State.afterPosition]
    simp only [state]
    refine ⟨fun none_ => ?_, fun tag' suspend => ?_⟩
    · rw [State.endSuspend_none, State.endSweep_some (tag := tag), State.endAbort_some (e := e)]
      · rfl
      · exact inExec
      · exact pending
      · exact none_
    · rw [State.endSuspend_some (tag := tag'), State.endSweep_some (tag := tag), State.endAbort_some (e := e)]
      · rfl
      · exact inExec
      · exact pending
      · exact suspend
  · rintro rfl state
    rw [exec_sweepPositionEnd_discarded op, state]
    rfl
  · rintro rfl state
    rw [exec_sweepPositionEnd_discarded op, if_pos (by rcases state with e | e | e <;> rw [e] <;> rfl),
      State.presentPosition_of_free rfl]
    rfl

end Sys2Proof.Machine
end

section
/-! PROOF. The ends of operations: a channel's result and the service of its queue, and a command's completion (R63 to R65, R68,
R147, R154). -/

namespace Sys2Proof.Machine

variable {s : State} {c : Fin 4}

/-! ### The service of a queue that begins with bad requests (R63, R64) -/

/-- The bad requests of a queue, each by its tag, its fields and its reason. -/
def badRequests (bads : List (Byte × RequestBody × Reason)) : List Request :=
  bads.map fun b => { tag := b.1, body := b.2.1, bad := some b.2.2 }

/-- Their answers in order (R64). -/
def badAnswers (bads : List (Byte × RequestBody × Reason)) : List OutFrame :=
  bads.map fun b => .response b.1 { verdict := .badRequest, reason := b.2.2 }

/-- The bad requests before a good head are split off. -/
theorem splitBad_append (bads : List (Byte × RequestBody × Reason)) {good : List Request} (head : ∀ g ∈ good.head?, g.bad = none) :
    splitBad (badRequests bads ++ good) = (badAnswers bads, good) := by
  induction bads with
  | nil => exact splitBad_of_good head
  | cons b bads ih => simp only [badRequests, List.map_cons, List.cons_append, splitBad] at ih ⊢; rw [ih]; rfl

/-- A channel with the bad requests at its head answered. -/
def Channel.afterBads (ch : Channel) (bads : List (Byte × RequestBody × Reason)) (good : List Request) : Channel :=
  { ch with queue := good, unanswered := ch.unanswered - bads.length, lane := ch.lane ++ badAnswers bads }

theorem Channel.answerBad_eq {ch : Channel} {bads : List (Byte × RequestBody × Reason)} {good : List Request}
    (queue : ch.queue = badRequests bads ++ good) (head : ∀ g ∈ good.head?, g.bad = none) : ch.answerBad = ch.afterBads bads good := by
  rw [Channel.answerBad, queue, splitBad_append bads head, Channel.afterBads, badAnswers, List.length_map]

section
variable {bads : List (Byte × RequestBody × Reason)} {good : List Request}

/-- The service of a channel with nothing at the table, once its bad requests are answered (R63). -/
theorem State.serve_eq (serving : (s.chan c).serving = true) (free : s.atTable (.lc c) = false)
    (queue : (s.chan c).queue = badRequests bads ++ good) (head : ∀ g ∈ good.head?, g.bad = none) : s.serve c =
      if good ≠ [] then s.setChan c { (s.chan c).afterBads bads good with presented := true }
      else if (s.chan c).state = .draining then (s.setChan c ((s.chan c).afterBads bads good).answerWaiting).endDrain c
      else s.setChan c ((s.chan c).afterBads bads good) := by
  unfold State.serve
  rw [if_pos (by rw [serving, free]; decide)]
  simp only [Channel.answerBad_eq queue head]
  cases good <;> rfl

/-- A drained channel answers what waits, closes, and completes the pending CLOSE (R68). -/
theorem State.serve_drained {tag : BitVec 16} (draining : (s.chan c).state = .draining) (free : s.atTable (.lc c) = false)
    (queue : (s.chan c).queue = badRequests bads) (pending : (s.chan c).closePending = some tag)
    (count : (s.chan c).unanswered = bads.length + (s.chan c).waitingAnswers.length) :
    s.serve c = (s.setChan c { s.chan c with
      state := .disabled, queue := [], waitingAnswers := [], unanswered := 0, closePending := none
      lane := (s.chan c).lane ++ badAnswers bads ++ (s.chan c).waitingAnswers.map (fun x => closedAnswer x .draining)
        ++ [.closeNotice .host] }).post tag 6#8 .ok (.channel c.val 2 0 (s.chan c).faultReason.code 0) := by
  rw [State.serve_eq (good := []) (Channel.serving_iff.2 (.inr draining)) free (by rw [queue, List.append_nil])
    (fun g none_ => by cases none_), if_neg (by simp), if_pos draining, State.endDrain, State.setChan_chan_same,
    State.setChan_setChan, State.endClose_some (tag := tag), State.channelResults, State.setChan_chan_same,
    State.setChan_setChan]
  · have zero : (s.chan c).unanswered - bads.length - (s.chan c).waitingAnswers.length = 0 := by omega
    simp only [Channel.send, Channel.answerWaiting, Channel.afterBads, zero]
    rfl
  · rw [State.setChan_chan_same]
    exact pending

end

/-! ### The end of a channel's operation (R63, R65) -/

theorem exec_channelOperationEnd_kept {before : FlowTable} {r : ServiceResult}
    (op : s.opAtTable = some { requester := .lc c, before := before, abandoned := false, outcome := .response r }) :
    exec .channelOperationEnd s = .next ((s.endOp.setChan c ((s.chan c).answerHead r)).serve c) := by
  show execChannelOperationEnd s = _
  unfold execChannelOperationEnd
  simp only [op]
  rfl

theorem exec_channelOperationEnd_discarded {before : FlowTable} {r : ServiceResult}
    (op : s.opAtTable = some { requester := .lc c, before := before, abandoned := true, outcome := .response r }) :
    exec .channelOperationEnd s = .next (s.endOp.serve c) := by
  show execChannelOperationEnd s = _
  unfold execChannelOperationEnd
  simp only [op, if_true]

theorem exec_commandOperationEnd_at {before : FlowTable} {st : Status} {r : Results} {abandoned : Bool}
    (op : s.opAtTable = some { requester := .cp, before := before, abandoned := abandoned, outcome := .completion st r }) :
    exec .commandOperationEnd s = .next (if abandoned then s.endOp else match s.inExec with
      | some e => s.endOp.complete e.desc st r
      | none => s.endOp) := by
  show execCommandOperationEnd s = _
  unfold execCommandOperationEnd
  simp only [op]
  cases abandoned <;> cases s.inExec <;> rfl

/-- Settles O60: the head answered or not, the queue is served; a command posts its completion unless it was discarded. -/
theorem operationEndsDeliverTheirResults : Obligations.OperationEndsDeliverTheirResults := by
  unfold Obligations.OperationEndsDeliverTheirResults
  refine ⟨fun s c before r q bads good => ?_, fun s c before r bads good => ?_, fun s before st r discarded op => ⟨?_, ?_⟩⟩
  · dsimp only
    intro op queue head
    have answered : (s.chan c).answerHead r = { s.chan c with
        queue := badRequests bads ++ good, unanswered := (s.chan c).unanswered - 1
        lane := (s.chan c).lane ++ [.response q.tag r] } := by
      unfold Channel.answerHead
      simp only [queue]
      rfl
    rw [exec_channelOperationEnd_kept op, answered]
    have chan : ∀ x, (s.endOp.setChan c x).chan c = x := fun x => State.setChan_chan_same _ _ x
    refine ⟨fun serving some_ => ?_, fun opened none_ => ?_, fun tag draining none_ pending count => ?_⟩
    · rw [State.serve_eq (bads := bads) (good := good) (by rw [chan]; exact Channel.serving_iff.2 serving) rfl (by rw [chan])
        head, if_pos some_, chan, State.setChan_setChan, Channel.afterBads, List.append_assoc]
      rfl
    · subst none_
      rw [State.serve_eq (bads := bads) (good := []) (by rw [chan]; exact Channel.serving_of_opened opened) rfl (by rw [chan])
        head, if_neg (by simp), chan, if_neg (by dsimp only; rw [opened]; decide), State.setChan_setChan, Channel.afterBads,
        List.append_assoc]
      rfl
    · subst none_
      have one : (s.chan c).unanswered - 1 = bads.length + (s.chan c).waitingAnswers.length := by
        rw [count, queue]
        simp
      rw [State.serve_drained (bads := bads) (tag := tag) (by rw [chan]; exact draining) rfl
        (by rw [chan]; exact List.append_nil _) (by rw [chan]; exact pending) (by rw [chan]; exact one), chan, State.setChan_setChan,
        List.append_assoc (s.chan c).lane]
      rfl
  · dsimp only
    intro op
    rw [exec_channelOperationEnd_discarded op]
    refine ⟨fun out => ?_, fun queue head => ⟨fun serving some_ => ?_, fun opened none_ => ?_,
      fun tag draining none_ pending count => ?_⟩⟩
    · have idle : (s.chan c).serving = false := by
        rw [Bool.eq_false_iff, Ne, Channel.serving_iff]
        rcases out with state | state <;> rw [state] <;> simp
      rw [State.serve_skip (s := s.endOp) (.inl idle)]
      rfl
    · rw [State.serve_eq (s := s.endOp) (Channel.serving_iff.2 serving) rfl queue head, if_pos some_]
      rfl
    · subst none_
      rw [State.serve_eq (s := s.endOp) (Channel.serving_of_opened opened) rfl queue head, if_neg (by simp),
        if_neg (by rw [State.endOp_chan, opened]; decide)]
      rfl
    · subst none_
      have all : (s.chan c).unanswered = bads.length + (s.chan c).waitingAnswers.length := by
        rw [count, queue]
        simp
      rw [List.append_nil] at queue
      rw [State.serve_drained (s := s.endOp) (bads := bads) (tag := tag) draining rfl queue pending all]
      rfl
  · rintro e rfl inExec
    rw [exec_commandOperationEnd_at op, inExec]
    rfl
  · rintro rfl
    rw [exec_commandOperationEnd_at op]
    rfl

end Sys2Proof.Machine
end

section
/-! PROOF. The table operations of the commands: the tests of a reference in order, what each command does to a record it admits, the
hand-over of records, INSERT, FIND and QUERY, SET_SEED and SET_DOMAIN (chapters 3, 7 and 9). -/

namespace Sys2Proof.Machine

variable {s : State} {d : Descriptor} {k : Byte}

/-! ### The operation of a command at its grant (R29, R147) -/

/-- An operation that changes the table alone is granted with the table it leaves. -/
theorem State.commandOperation_grant {op : Descriptor → State → State × Status × Results} (granted : s.AtGrant k d)
    {T : FlowTable} {st : Status} {r : Results} (out : op d s = ({ s with table := T }, st, r)) :
    s.commandOperation k op = s.grant .cp T (.completion st r) := by
  rw [State.commandOperation_eq granted, out]

/-! ### The tests of a reference (R7, R36) -/

section
variable {admits : RecState → Bool} {act : Descriptor → State → State × Status × Results}

theorem onReference_stale (stale : ¬ s.table.Current (handleOf d) (generationOf d)) :
    onReference admits act d s = (s, .stale, refResults d .free) :=
  if_pos ((DirEntry.stale_iff ..).2 stale)

theorem DirEntry.not_stale {t : FlowTable} {h : Nat} {g : Byte} (current : t.Current h g) : ¬ (t.dir h).stale g = true := by
  rw [DirEntry.stale_iff]
  exact not_not.2 current

theorem onReference_wrongState (current : s.table.Current (handleOf d) (generationOf d))
    (refused : admits (s.table.dir (handleOf d)).state = false) :
    onReference admits act d s = (s, .wrongState, refResults d (s.table.dir (handleOf d)).state) :=
  (if_neg (DirEntry.not_stale current)).trans (if_pos (by rw [refused]; rfl))

theorem onReference_damaged (current : s.table.Current (handleOf d) (generationOf d))
    (admitted : admits (s.table.dir (handleOf d)).state = true) (bad : s.table.bad (handleOf d) = true) :
    onReference admits act d s = ({ s with table := s.table.damage (handleOf d) }, .damaged, refResults d .closing) :=
  (if_neg (DirEntry.not_stale current)).trans ((if_neg (by rw [admitted]; decide)).trans (if_pos bad))

end

/-- The operation row of a command on a reference: its tests admit the states of the command's rule. -/
theorem exec_referenceCommand {i : Instr} {states : List RecState} (row : (i, k, states) ∈ referenceCommands) :
    ∃ admits act, (∀ s, exec i s = .next (s.commandOperation k (onReference admits act)))
      ∧ ∀ x, admits x = decide (x ∈ states) := by
  simp only [referenceCommands, List.mem_cons, List.not_mem_nil, or_false, Prod.mk.injEq] at row
  rcases row with ⟨rfl, rfl, rfl⟩ | ⟨rfl, rfl, rfl⟩ | ⟨rfl, rfl, rfl⟩ | ⟨rfl, rfl, rfl⟩ | ⟨rfl, rfl, rfl⟩ | ⟨rfl, rfl, rfl⟩
  all_goals exact ⟨_, _, fun s => rfl, fun x => by cases x <;> rfl⟩

/-- Settles O55: the three tests of every command on a reference. -/
theorem referenceTestsRunInOrder : Obligations.ReferenceTestsRunInOrder := by
  unfold Obligations.ReferenceTestsRunInOrder
  intro s d i k states row granted
  obtain ⟨admits, act, run, admitted⟩ := exec_referenceCommand row
  dsimp only
  rw [run]
  refine ⟨fun stale => ?_, fun current out => ?_, fun current inStates bad => ?_⟩
  · rw [State.commandOperation_grant (T := s.table) granted (onReference_stale stale)]
    rfl
  · rw [State.commandOperation_grant (T := s.table) granted
      (onReference_wrongState current (by rw [admitted]; exact decide_eq_false out))]
    rfl
  · rw [State.commandOperation_grant granted (onReference_damaged current (by rw [admitted]; exact decide_eq_true inStates) bad)]
    rfl

/-! ### HOLD, CONFIRM, MODIFY and COLLECT (R116, R126, R162, R164) -/

theorem FlowTable.timerField_eq (t : FlowTable) (h : Nat) : t.timerField h = (t.body h).timerGiven := by
  unfold FlowTable.timerField Body.timerGiven
  cases (t.body h).deadline <;> cases (t.body h).holdEnd <;> rfl

/-- A command on a reference that passes its tests is granted with what it does. -/
theorem State.referenceOperation_grant {admits : RecState → Bool} {act : Descriptor → State → State × Status × Results}
    (granted : s.AtGrant k d) (current : s.table.Current (handleOf d) (generationOf d))
    (admitted : admits (s.table.dir (handleOf d)).state = true) (sound : s.table.bad (handleOf d) = false) {T : FlowTable}
    {st : Status} {r : Results} (out : act d s = ({ s with table := T }, st, r)) :
    s.commandOperation k (onReference admits act) = s.grant .cp T (.completion st r) :=
  State.commandOperation_grant granted ((onReference_eq current admitted sound).trans out)

theorem activeOrHeld_of_live {t : FlowTable} {h : Nat} (live : t.Live h) : activeOrHeld (t.dir h).state = true := by
  rcases live with e | e <;> rw [e] <;> rfl

theorem holdAct_eq (live : s.table.Live (handleOf d)) :
    holdAct d s = ({ s with table := s.table.holdRule (handleOf d) s.timer.timeBase (fieldAt d 8 4) }, .ok, .record
      { handle := handleOf d, generation := generationOf d, state := if 0 < fieldAt d 8 4 then .held else .active,
        timer := ((s.table.holdRule (handleOf d) s.timer.timeBase (fieldAt d 8 4)).body (handleOf d)).timerGiven }) := by
  unfold holdAct refResults
  dsimp only
  rw [FlowTable.holdRule_dir_of_live live, FlowTable.timerField_eq]

/-- The table after a CONFIRM (R126, step 4). -/
def FlowTable.confirmed (t : FlowTable) (d : Descriptor) (ps : Vector Profile 64) (now : Nat) : FlowTable :=
  (((t.setDir (handleOf d) { t.dir (handleOf d) with state := .active }).modifyBody (handleOf d) (fun b =>
    { b.assignProfile ps (profileArg d) now with
      cls := classArg d, leaseInterval := leaseArg d, pinned := pinnedArg d, reported := none })).armLease (handleOf d) now
        (leaseArg d)).unlist (handleOf d)

section
variable (t : FlowTable) (d : Descriptor) (ps : Vector Profile 64) (now : Nat)

theorem FlowTable.confirmed_dir :
    (t.confirmed d ps now).dir (handleOf d) = { t.dir (handleOf d) with state := .active } := by
  simp [FlowTable.confirmed, FlowTable.dir_setDir]

theorem FlowTable.confirmed_bad (h : Nat) : (t.confirmed d ps now).bad h = t.bad h := by simp [FlowTable.confirmed]

theorem FlowTable.confirmed_body : (t.confirmed d ps now).body (handleOf d) =
    { t.body (handleOf d) with
      cls := classArg d, profile := profileArg d, tokens := burstOf ps (profileArg d), meterTime := now
      leaseInterval := leaseArg d, pinned := pinnedArg d
      deadline := if 0 < leaseArg d then some (clampTime now (leaseArg d)) else none, reported := none } := by
  simp [FlowTable.confirmed, FlowTable.body_armLease, FlowTable.body_modifyBody, Body.assignProfile]

theorem FlowTable.confirmed_others : FlowTable.OthersKept t (t.confirmed d ps now) (handleOf d) :=
  FlowTable.OthersKept.of_fields (fun k other => by simp [FlowTable.confirmed, FlowTable.dir_setDir, other])
    (fun k other => by simp [FlowTable.confirmed, FlowTable.body_armLease, FlowTable.body_modifyBody, other])
    (fun k _ => by simp [FlowTable.confirmed])

theorem FlowTable.confirmed_queueTime (k : Nat) : queueTime k (t.confirmed d ps now).expiryQ =
    if k = handleOf d then (if 0 < leaseArg d then some (clampTime now (leaseArg d)) else none) else queueTime k t.expiryQ := by
  rw [← queueTime_leased]
  congr 1
  simp [FlowTable.confirmed, FlowTable.armLease_expiryQ]

/-- CONFIRM takes the record off the learned list and leaves the counts, the closed list and the hold queue. -/
theorem FlowTable.confirmed_rest : (t.confirmed d ps now).counts = t.counts
    ∧ (t.confirmed d ps now).learned = t.learned.filter (· ≠ handleOf d) ∧ (t.confirmed d ps now).closed = t.closed
    ∧ (t.confirmed d ps now).holdQ = t.holdQ := by
  simp [FlowTable.confirmed, FlowTable.unlist]

/-- The table after a MODIFY (R162, step 4). -/
def FlowTable.modified (t : FlowTable) (d : Descriptor) (ps : Vector Profile 64) (now : Nat) : FlowTable :=
  if modifySelects d 2 && (t.dir (handleOf d)).state = .active then
    (t.modifyBody (handleOf d) (modifyFields d ps now)).armLease (handleOf d) now (leaseArg d)
  else t.modifyBody (handleOf d) (modifyFields d ps now)

theorem FlowTable.modified_dir (h : Nat) : (t.modified d ps now).dir h = t.dir h := by
  unfold FlowTable.modified; split <;> simp

theorem FlowTable.modified_bad (h : Nat) : (t.modified d ps now).bad h = t.bad h := by
  unfold FlowTable.modified; split <;> simp

theorem FlowTable.modified_others : FlowTable.OthersKept t (t.modified d ps now) (handleOf d) :=
  FlowTable.OthersKept.of_fields (fun k _ => t.modified_dir d ps now k)
    (fun k other => by unfold FlowTable.modified; split <;> simp [FlowTable.body_armLease, FlowTable.body_modifyBody, other])
    (fun k _ => t.modified_bad d ps now k)

theorem modifyFields_eq (b : Body) : modifyFields d ps now b = { b with
    cls := if modifySelects d 0 then classArg d else b.cls
    profile := if modifySelects d 1 then profileArg d else b.profile
    tokens := if modifySelects d 1 then burstOf ps (profileArg d) else b.tokens
    meterTime := if modifySelects d 1 then now else b.meterTime
    leaseInterval := if modifySelects d 2 then leaseArg d else b.leaseInterval
    pinned := if modifySelects d 3 then pinnedArg d else b.pinned } := by
  unfold modifyFields
  cases modifySelects d 0 <;> cases modifySelects d 1 <;> cases modifySelects d 2 <;> cases modifySelects d 3 <;> rfl

theorem FlowTable.modified_body : (t.modified d ps now).body (handleOf d) =
    { modifyFields d ps now (t.body (handleOf d)) with
      deadline := if modifySelects d 2 = true ∧ (t.dir (handleOf d)).state = .active then
          if 0 < leaseArg d then some (clampTime now (leaseArg d)) else none
        else (t.body (handleOf d)).deadline } := by
  unfold FlowTable.modified
  by_cases arms : modifySelects d 2 = true ∧ (t.dir (handleOf d)).state = .active
  · rw [if_pos (by simpa using arms), if_pos arms, FlowTable.body_armLease, if_pos rfl, FlowTable.body_modifyBody, if_pos rfl]
  · rw [if_neg (by simpa using arms), if_neg arms, FlowTable.body_modifyBody, if_pos rfl, modifyFields_eq]

theorem FlowTable.modified_queueTime (on : modifySelects d 2 = true) (active : (t.dir (handleOf d)).state = .active) (k : Nat) :
    queueTime k (t.modified d ps now).expiryQ =
      if k = handleOf d then (if 0 < leaseArg d then some (clampTime now (leaseArg d)) else none) else queueTime k t.expiryQ := by
  rw [← queueTime_leased, FlowTable.modified, if_pos (by simp [on, active]), FlowTable.armLease_expiryQ]
  rfl

theorem FlowTable.modified_expiryQ (off : modifySelects d 2 = false ∨ (t.dir (handleOf d)).state = .held) :
    (t.modified d ps now).expiryQ = t.expiryQ := by
  rw [FlowTable.modified, if_neg (by rcases off with e | e <;> simp [e])]
  rfl

/-- MODIFY leaves the counts, the lists and the hold queue. -/
theorem FlowTable.modified_rest : (t.modified d ps now).counts = t.counts ∧ (t.modified d ps now).learned = t.learned
    ∧ (t.modified d ps now).closed = t.closed ∧ (t.modified d ps now).holdQ = t.holdQ := by
  unfold FlowTable.modified; split <;> simp

end

theorem confirmAct_eq (d : Descriptor) (s : State) :
    confirmAct d s = ({ s with table := s.table.confirmed d s.profiles s.timer.timeBase }, .ok, .record
      { handle := handleOf d, generation := generationOf d, state := .active,
        timer := ((s.table.confirmed d s.profiles s.timer.timeBase).body (handleOf d)).timerGiven }) := by
  rw [← FlowTable.timerField_eq]
  rfl

theorem modifyAct_eq (d : Descriptor) (s : State) :
    modifyAct d s = ({ s with table := s.table.modified d s.profiles s.timer.timeBase }, .ok, .record
      { handle := handleOf d, generation := generationOf d, state := (s.table.dir (handleOf d)).state,
        timer := ((s.table.modified d s.profiles s.timer.timeBase).body (handleOf d)).timerGiven }) := by
  have dir := s.table.modified_dir d s.profiles s.timer.timeBase (handleOf d)
  rw [← FlowTable.timerField_eq, ← dir]
  unfold modifyAct FlowTable.modified
  simp only [FlowTable.dir_modifyBody]
  rfl

/-- The classes and profiles that a descriptor gives, where its field is used. -/
theorem ite_classArg {on : Bool} {cls : Byte} (given : on = true → fieldAt d 8 2 = cls.toNat) (other : Byte) :
    (if on then classArg d else other) = if on then cls else other := by
  cases on with
  | false => rfl
  | true => exact classArg_eq (given rfl)

theorem ite_profileArg {α : Type} {on : Bool} {p : Fin 64} (given : on = true → fieldAt d 10 1 = p.val) (f : Fin 64 → α) (other : α) :
    (if on then f (profileArg d) else other) = if on then f p else other := by
  cases on with
  | false => rfl
  | true => exact congrArg f (profileArg_eq (given rfl))

/-- COLLECT returns the counters as they stood and clears them (R164, step 4). -/
theorem collectAct_eq (d : Descriptor) (s : State) :
    collectAct d s = ({ s with
        table := s.table.modifyBody (handleOf d) (fun b => { b with packets := 0, bytes := 0, exceeds := 0 }) }, .ok, .record
      { handle := handleOf d, generation := generationOf d, state := (s.table.dir (handleOf d)).state,
        packets := (s.table.body (handleOf d)).packets, bytes := (s.table.body (handleOf d)).bytes,
        exceeds := (s.table.body (handleOf d)).exceeds, meterTime := s.timer.timeBase }) := rfl

theorem notClosing_of_live_or_provisional {t : FlowTable} {h : Nat} (states : t.Live h ∨ (t.dir h).state = .provisional) :
    notClosing (t.dir h).state = true := by
  rcases states with (e | e) | e <;> rw [e] <;> rfl

/-- Settles O56: each command by its act on a record it admits. -/
theorem holdConfirmModifyCollectComplete : Obligations.HoldConfirmModifyCollectComplete := by
  unfold Obligations.HoldConfirmModifyCollectComplete
  intro s d cls p
  dsimp only
  intro current sound
  refine ⟨fun granted live => ?_, fun granted provisional byClass byProfile => ?_, fun granted live byClass byProfile => ?_,
    fun granted states => ?_⟩
  · exact congrArg _ (State.referenceOperation_grant granted current (activeOrHeld_of_live live) sound (holdAct_eq live))
  · obtain ⟨counts, learned, closed, holdQ⟩ := s.table.confirmed_rest d s.profiles s.timer.timeBase
    refine ⟨s.table.confirmed d s.profiles s.timer.timeBase, congrArg _ (State.referenceOperation_grant granted current
        (by rw [onlyProvisional]; exact decide_eq_true provisional) sound (confirmAct_eq d s)),
      s.table.confirmed_dir d _ _, (s.table.confirmed_bad d _ _ _).trans sound, s.table.confirmed_others d _ _,
      (s.table.confirmed_body d _ _).trans ?_, counts, learned, closed, holdQ, s.table.confirmed_queueTime d _ _⟩
    rw [classArg_eq byClass, profileArg_eq byProfile]
    rfl
  · obtain ⟨counts, learned, closed, holdQ⟩ := s.table.modified_rest d s.profiles s.timer.timeBase
    refine ⟨s.table.modified d s.profiles s.timer.timeBase, congrArg _ (State.referenceOperation_grant granted current
        (activeOrHeld_of_live live) sound (modifyAct_eq d s)),
      s.table.modified_dir d _ _ _, (s.table.modified_bad d _ _ _).trans sound, s.table.modified_others d _ _,
      (s.table.modified_body d _ _).trans ?_, counts, learned, closed, holdQ,
      fun on active => s.table.modified_queueTime d _ _ on active, fun off => s.table.modified_expiryQ d _ _ off⟩
    rw [modifyFields_eq, ite_classArg (on := modifySelects d 0) byClass,
      ite_profileArg (on := modifySelects d 1) byProfile (fun q => q),
      ite_profileArg (on := modifySelects d 1) byProfile (burstOf s.profiles)]
    rfl
  · exact ⟨s.table.modifyBody (handleOf d) (fun b => { b with packets := 0, bytes := 0, exceeds := 0 }),
      congrArg _ (State.referenceOperation_grant granted current (notClosing_of_live_or_provisional states) sound
        (collectAct_eq d s)),
      FlowTable.dir_modifyBody .., (FlowTable.bad_modifyBody ..).trans sound,
      (FlowTable.body_modifyBody ..).trans (if_pos rfl), FlowTable.OthersKept.modifyBody _ _ _, ⟨rfl, rfl, rfl, rfl, rfl⟩⟩

end Sys2Proof.Machine
end

section
/-! PROOF. The hand-over of records to the host, INSERT, FIND and QUERY, SET_SEED and SET_DOMAIN (chapters 3, 7 and 9). -/

namespace Sys2Proof.Machine

variable {s : State} {d : Descriptor} {h : Nat} {n : Fin 16} {T : FlowTable}

/-! ### REJECT and RETIRE (R128, R131, R132) -/

theorem rejectAct_eq (d : Descriptor) (s : State) : rejectAct d s =
    ({ s with table := s.table.free (handleOf d) }, .ok, .record ((s.table.slot (handleOf d)).wholeImage (handleOf d))) := by
  rw [← FlowTable.image_eq_wholeImage]
  rfl

theorem retireAct_eq (auto : s.domains[(s.table.dir (handleOf d)).domain].autoRelease = false) : retireAct d s =
    ({ s with table := s.table.close (handleOf d) .retired false }, .ok,
      .record { handle := handleOf d, generation := generationOf d, state := .closing }) := by
  unfold retireAct
  simp only [auto]
  rfl

theorem retireAct_autoRelease (auto : s.domains[(s.table.dir (handleOf d)).domain].autoRelease = true) : retireAct d s =
    ({ s with table := s.table.free (handleOf d) }, .ok,
      .record ((s.table.slot (handleOf d)).wholeImage (handleOf d))) := by
  unfold retireAct
  simp only [auto, FlowTable.image_eq_wholeImage]
  rfl

/-! ### FETCH_LEARNED (R123) -/

theorem fetchLearnedOp_empty (none : s.table.learned = []) : fetchLearnedOp d s = (s, .empty, .none) := by
  unfold fetchLearnedOp
  rw [none]

theorem fetchLearnedOp_damaged {l : List Nat} (head : s.table.learned = h :: l) (bad : s.table.bad h = true) :
    fetchLearnedOp d s = ({ s with table := s.table.damage h }, .damaged, .record
      { handle := h, generation := (s.table.dir h).generation, state := .closing, domain := (s.table.dir h).domain.val }) := by
  unfold fetchLearnedOp
  rw [head]
  exact if_pos bad

/-- The table after a FETCH_LEARNED that hands a record over: reported, and off the learned list (R123). -/
def FlowTable.reported (t : FlowTable) (h : Nat) : FlowTable :=
  (t.unlist h).modifyBody h (fun b => { b with reported := some true })

theorem fetchLearnedOp_reported {l : List Nat} (head : s.table.learned = h :: l) (sound : s.table.bad h = false) :
    fetchLearnedOp d s = ({ s with table := s.table.reported h }, .ok,
      .record (((s.table.reported h).slot h).wholeImage h)) := by
  unfold fetchLearnedOp
  rw [head, ← FlowTable.image_eq_wholeImage]
  exact if_neg (by rw [sound]; decide)

/-! ### FETCH_CLOSED (R135, R136) -/

theorem fetchClosedOp_empty (none : s.table.closed = []) : fetchClosedOp d s = (s, .empty, .none) := by
  unfold fetchClosedOp
  rw [none]

theorem DirEntry.damaged_iff (e : DirEntry) : e.damaged = true ↔ e.state = .closing ∧ e.closeReason = some .damaged := by
  simp [DirEntry.damaged]

theorem fetchClosedOp_sound {l : List Nat} (head : s.table.closed = h :: l) (sound : s.table.bad h = false)
    (reliable : ¬ (s.table.dir h).damaged = true) : fetchClosedOp d s =
      ({ s with table := s.table.free h }, .ok, .record ((s.table.slot h).wholeImage h)) := by
  unfold fetchClosedOp
  rw [head, ← FlowTable.image_eq_wholeImage]
  exact if_neg (by simp [sound, reliable])

theorem fetchClosedOp_damaged {l : List Nat} (head : s.table.closed = h :: l)
    (damaged : s.table.bad h = true ∨ (s.table.dir h).damaged = true) : fetchClosedOp d s =
      ({ s with table := s.table.free h, freeCount := s.freeCount + 1 }, .ok,
        .record (s.table.damagedImage h (Config.damagedBody s.freeCount))) := by
  unfold fetchClosedOp
  rw [head]
  exact if_pos (by rcases damaged with e | e <;> simp [e])

/-- Settles O57: each command by what it hands over. -/
theorem recordsAreHandedToTheHost : Obligations.RecordsAreHandedToTheHost := by
  unfold Obligations.RecordsAreHandedToTheHost
  intro s d
  dsimp only
  refine ⟨?_, fun granted => ⟨fun none => ?_, fun h l head => ⟨fun bad => ?_, fun sound => ?_⟩⟩,
    fun granted => ⟨fun none => ?_, fun h l head => ⟨fun sound reliable => ?_, fun damaged => ?_⟩⟩⟩
  · rintro _ _ rfl rfl current sound
    refine ⟨fun granted provisional => ?_, fun granted live => ⟨fun auto => ?_, fun auto => ?_⟩⟩
    · exact congrArg _ (State.referenceOperation_grant granted current (by rw [onlyProvisional]; exact decide_eq_true provisional)
        sound (rejectAct_eq d s))
    · exact congrArg _ (State.referenceOperation_grant granted current (activeOrHeld_of_live live) sound (retireAct_eq auto))
    · exact congrArg _ (State.referenceOperation_grant granted current (activeOrHeld_of_live live) sound
        (retireAct_autoRelease auto))
  · exact congrArg _ (State.commandOperation_grant granted (fetchLearnedOp_empty none))
  · exact congrArg _ (State.commandOperation_grant granted (fetchLearnedOp_damaged head bad))
  · exact ⟨s.table.reported h, congrArg _ (State.commandOperation_grant granted (fetchLearnedOp_reported head sound)),
      FlowTable.dir_modifyBody .., (FlowTable.bad_modifyBody ..).trans sound, (FlowTable.body_modifyBody ..).trans (if_pos rfl),
      FlowTable.OthersKept.modifyBody (s.table.unlist h) _ _, congrArg _ head, rfl, rfl, rfl, rfl⟩
  · exact congrArg _ (State.commandOperation_grant granted (fetchClosedOp_empty none))
  · rw [← DirEntry.damaged_iff] at reliable
    exact congrArg _ (State.commandOperation_grant granted (fetchClosedOp_sound head sound reliable))
  · rw [← DirEntry.damaged_iff] at damaged
    refine ⟨Config.damagedBody s.freeCount, congrArg Host.Outcome.next ?_⟩
    rw [State.commandOperation_eq granted, fetchClosedOp_damaged head damaged]
    rfl

/-! ### INSERT (R156, R157) -/

/-- The key of a search by a command: the key of the descriptor under the mask of its domain (R15, R156, R159). -/
def State.commandKey (s : State) (d : Descriptor) (n : Fin 16) : Key := keyArg d &&& s.domains[n].mask

section
variable (domain : fieldAt d 4 1 = n.val)
include domain

theorem insertOp_domainOff (off : s.domains[n].enabled = false) :
    insertOp d s = (s, .domainOff, .record { domain := n.val }) := by
  obtain rfl := domainOf_eq domain
  exact if_pos (by rw [off]; rfl)

variable (enabled : s.domains[n].enabled = true)
include enabled

theorem insertOp_exists (found : s.table.search s.seed n (s.commandKey d n) = (T, some h)) :
    insertOp d s = ({ s with table := T }, .exists, .record
      { handle := h, generation := (T.dir h).generation, state := (T.dir h).state, domain := n.val,
        timer := (T.dir h).reasonGiven }) := by
  unfold State.commandKey at found
  unfold insertOp
  simp only [domainOf_eq domain, enabled, found]
  rfl

variable (missed : s.table.search s.seed n (s.commandKey d n) = (T, none))
include missed

theorem insertOp_quota (atQuota : s.domains[n].quota ≤ T.count n) :
    insertOp d s = ({ s with table := T }, .quota, .insertQuota n s.domains[n].quota (T.count n)) := by
  unfold State.commandKey at missed
  unfold insertOp
  simp only [domainOf_eq domain, enabled, missed, if_neg (Nat.not_lt.2 atQuota)]
  rfl

variable (belowQuota : T.count n < s.domains[n].quota)
include belowQuota

theorem insertOp_full (full : T.placement (bucket s.seed n (s.commandKey d n)) = none) :
    insertOp d s = ({ s with table := T }, .full, .record { domain := n.val }) := by
  unfold State.commandKey at missed full
  unfold insertOp
  simp only [domainOf_eq domain, enabled, missed, if_pos belowQuota, full]
  rfl

theorem insertOp_created (slot : T.placement (bucket s.seed n (s.commandKey d n)) = some h) :
    insertOp d s =
      ({ s with table := T.create h .active n (insertedBody d s.profiles (s.commandKey d n) s.timer.timeBase) }, .ok, .record
        { handle := h, generation := (T.dir h).generation, state := .active, domain := n.val,
          timer := (insertedBody d s.profiles (s.commandKey d n) s.timer.timeBase).timerGiven }) := by
  unfold State.commandKey at missed slot ⊢
  unfold insertOp
  simp only [domainOf_eq domain, enabled, missed, if_pos belowQuota, slot, FlowTable.timerField_eq, FlowTable.dir_create,
    FlowTable.body_create, if_true]
  rfl

end

/-! ### FIND and QUERY (R159, R160) -/

theorem findOp_found (domain : fieldAt d 4 1 = n.val)
    (found : s.table.search s.seed n (s.commandKey d n) = (T, some h)) : findOp d s = ({ s with table := T }, .ok, .record
      { handle := h, generation := (T.dir h).generation, state := (T.dir h).state, cls := (T.body h).cls,
        timer := (T.dir h).reasonGiven }) := by
  unfold State.commandKey at found
  unfold findOp
  simp only [domainOf_eq domain, found]
  rfl

theorem findOp_missed (domain : fieldAt d 4 1 = n.val)
    (missed : s.table.search s.seed n (s.commandKey d n) = (T, none)) : findOp d s = ({ s with table := T }, .notFound, .none) := by
  unfold State.commandKey at missed
  unfold findOp
  simp only [domainOf_eq domain, missed]

theorem queryOp_stale (stale : ¬ s.table.Current (handleOf d) (generationOf d)) :
    queryOp d s = (s, .stale, refResults d .free) :=
  if_pos ((DirEntry.stale_iff ..).2 stale)

section
variable (current : s.table.Current (handleOf d) (generationOf d))
include current

theorem queryOp_damaged (damaged : (s.table.dir (handleOf d)).damaged = true) :
    queryOp d s = (s, .damaged, damagedResults d (s.table.dir (handleOf d)).domain) :=
  (if_neg (DirEntry.not_stale current)).trans (if_pos damaged)

variable (reliable : ¬ (s.table.dir (handleOf d)).damaged = true)
include reliable

theorem queryOp_bad (bad : s.table.bad (handleOf d) = true) : queryOp d s = ({ s with table := s.table.damage (handleOf d) },
    .damaged, damagedResults d (s.table.dir (handleOf d)).domain) :=
  (if_neg (DirEntry.not_stale current)).trans ((if_neg reliable).trans (if_pos bad))

theorem queryOp_sound (sound : s.table.bad (handleOf d) = false) :
    queryOp d s = (s, .ok, .record ((s.table.slot (handleOf d)).wholeImage (handleOf d))) := by
  rw [← FlowTable.image_eq_wholeImage]
  exact (if_neg (DirEntry.not_stale current)).trans ((if_neg reliable).trans (if_neg (by rw [sound]; decide)))

end

/-- Settles O58: each command by the outcome of its search or of its tests. -/
theorem insertFindQueryComplete : Obligations.InsertFindQueryComplete := by
  unfold Obligations.InsertFindQueryComplete
  intro s d n T
  dsimp only
  refine ⟨fun granted domain => ⟨fun off => ?_, fun h enabled found => ?_, fun enabled missed atQuota => ?_,
      fun enabled missed belowQuota full => ?_, fun h cls p enabled missed belowQuota slot byClass byProfile => ?_⟩,
    fun granted domain => ⟨fun h found => ?_, fun missed => ?_⟩,
    fun granted => ⟨fun stale => ?_, fun current damaged => ?_, fun current reliable bad => ?_, fun current reliable sound => ?_⟩⟩
  · exact congrArg _ (State.commandOperation_grant granted (insertOp_domainOff domain off))
  · exact congrArg _ (State.commandOperation_grant granted (insertOp_exists domain enabled found))
  · exact congrArg _ (State.commandOperation_grant granted (insertOp_quota domain enabled missed atQuota))
  · exact congrArg _ (State.commandOperation_grant granted (insertOp_full domain enabled missed belowQuota full))
  · have created := State.commandOperation_grant granted (insertOp_created domain enabled missed belowQuota slot)
    unfold insertedBody at created
    rw [classArg_eq byClass, profileArg_eq byProfile] at created
    exact congrArg _ created
  · exact congrArg _ (State.commandOperation_grant granted (findOp_found domain found))
  · exact congrArg _ (State.commandOperation_grant granted (findOp_missed domain missed))
  · exact congrArg _ (State.commandOperation_grant (T := s.table) granted (queryOp_stale stale))
  · rw [← DirEntry.damaged_iff] at damaged
    exact congrArg _ (State.commandOperation_grant (T := s.table) granted (queryOp_damaged current damaged))
  · rw [← DirEntry.damaged_iff] at reliable
    exact congrArg _ (State.commandOperation_grant granted (queryOp_bad current reliable bad))
  · rw [← DirEntry.damaged_iff] at reliable
    exact congrArg _ (State.commandOperation_grant (T := s.table) granted (queryOp_sound current reliable sound))

/-! ### SET_SEED (R22) -/

theorem FlowTable.allFree_iff {t : FlowTable} (wf : cellsWf Slot.powerOn t.slots) :
    t.allFree = true ↔ ∀ h, (t.dir h).state = .free := by
  refine ⟨FlowTable.state_of_allFree, fun free => List.all_eq_true.2 fun p listed => decide_eq_true ?_⟩
  have read : t.slot p.1 = p.2 := cellGet_of_mem Slot.powerOn t.slots wf.1 p listed
  exact read ▸ free p.1

/-! ### SET_DOMAIN (R45, R46) -/

theorem learnModeOf_code (mode : LearnMode) : learnModeOf mode.code = mode := by
  cases mode <;> rfl

/-- The entry that a SET_DOMAIN asks for, by the learn mode and the profile its descriptor gives. -/
theorem DomainEntry.withFields_eq (e : DomainEntry) {mode : LearnMode} {p : Fin 64}
    (byMode : domainSelects d 2 = true → fieldAt d 5 1 = mode.code)
    (byProfile : domainSelects d 4 = true → fieldAt d 7 1 = p.val) : e.withFields d = { e.withFields d with
      learnMode := if domainSelects d 2 then mode else e.learnMode
      learnProfile := if domainSelects d 4 then p else e.learnProfile } := by
  have learnMode : (e.withFields d).learnMode = if domainSelects d 2 then mode else e.learnMode :=
    ite_congr rfl (fun on => by rw [byMode on, learnModeOf_code]) (fun _ => rfl)
  have learnProfile : (e.withFields d).learnProfile = if domainSelects d 4 then p else e.learnProfile :=
    ite_congr rfl (fun on => Fin.ext (by simp [byProfile on, Fin.ofNat])) (fun _ => rfl)
  rw [← learnMode, ← learnProfile]

section
variable (domain : fieldAt d 4 1 = n.val)
include domain

theorem setDomainOp_notEmpty (changes : (s.domains[n].withFields d).mask ≠ s.domains[n].mask) (holds : 0 < s.table.count n) :
    setDomainOp d s = (s, .notEmpty, .domain n s.domains[n] (s.table.count n)) := by
  obtain rfl := domainOf_eq domain
  exact if_pos ⟨changes, holds⟩

variable (allowed : (s.domains[n].withFields d).mask = s.domains[n].mask ∨ s.table.count n = 0)
include allowed

theorem setDomainOp_quota (selected : domainSelects d 8 = true) (below : fieldAt d 14 2 < s.table.count n) :
    setDomainOp d s = (s, .quota, .domain n s.domains[n] (s.table.count n)) := by
  obtain rfl := domainOf_eq domain
  refine (if_neg ?_).trans (if_pos ⟨selected, below⟩)
  rintro ⟨changes, holds⟩
  exact allowed.elim changes holds.ne'

theorem setDomainOp_changed (fits : domainSelects d 8 = false ∨ s.table.count n ≤ fieldAt d 14 2) :
    setDomainOp d s = ({ s with domains := s.domains.set n.val (s.domains[n].withFields d) n.isLt }, .ok,
      .domain n (s.domains[n].withFields d) (s.table.count n)) := by
  obtain rfl := domainOf_eq domain
  refine (if_neg ?_).trans (if_neg ?_)
  · rintro ⟨changes, holds⟩
    exact allowed.elim changes holds.ne'
  · rintro ⟨selected, below⟩
    exact fits.elim (by rw [selected]; decide) (Nat.not_le.2 below)

end

/-- One domain entry is written; the others stay. -/
theorem domains_set (ds : Vector DomainEntry 16) (n m : Fin 16) (e : DomainEntry) :
    (ds.set n.val e n.isLt)[m] = if m = n then e else ds[m] := by
  rw [Fin.getElem_fin, Vector.getElem_set]
  simp only [Fin.ext_iff, eq_comm]
  rfl

/-- Settles O59: each command by its tests in order. -/
theorem seedAndDomainChangeWhenAllowed : Obligations.SeedAndDomainChangeWhenAllowed := by
  unfold Obligations.SeedAndDomainChangeWhenAllowed
  intro s d wf
  dsimp only
  refine ⟨fun granted => ⟨fun free => congrArg Host.Outcome.next ?_, fun h live => congrArg Host.Outcome.next ?_⟩,
    fun granted n mode p domain byMode byProfile => ⟨fun changes holds => ?_, fun allowed selected below => ?_,
      fun allowed fits => ?_⟩⟩
  · rw [State.commandOperation_eq granted, setSeedOp, if_pos ((FlowTable.allFree_iff wf).2 free)]
  · rw [State.commandOperation_eq granted, setSeedOp, if_neg fun free => live ((FlowTable.allFree_iff wf).1 free h)]
  · exact congrArg _ (State.commandOperation_grant (T := s.table) granted (setDomainOp_notEmpty domain changes holds))
  · exact congrArg _ (State.commandOperation_grant (T := s.table) granted (setDomainOp_quota domain allowed selected below))
  · have entry := s.domains[n].withFields_eq byMode byProfile
    refine ⟨s.domains.set n.val (s.domains[n].withFields d) n.isLt, congrArg Host.Outcome.next ?_, fun m => ?_⟩
    · rw [State.commandOperation_eq granted, setDomainOp_changed domain allowed fits, entry]
      rfl
    · rw [domains_set, entry]
      rfl

end Sys2Proof.Machine
end
